-- ==== Sys2Proof/Word.lean ====
section
/-! DEFINITION. The two value widths of the machine (spec/00_scope.md R9): `u8` and `u16`.
Their `+` and `-` are those of `BitVec`, modulo 256 and modulo 65536, as R9 asks. -/

namespace Sys2Proof

/-- `u8`: a register, a memory cell, an opcode or operand byte (R9, R22, R60). -/
abbrev Byte := BitVec 8

/-- `u16`: an address, the program counter, a vector (R9, R25). -/
abbrev Word := BitVec 16

end Sys2Proof
end

