-- ==== Sys2Proof/Machine/Bits.lean ====
section
/-! DEFINITION. Bit fields, byte order and extensions of spec/00_scope.md R9, used by the decoder and by every operation. -/

namespace Sys2Proof.Machine

/-- `hi:lo` written `{hi, lo}` in the spec: the word `hi * 256 + lo` (R9). -/
def wordOf (hi lo : Byte) : Word := hi ++ lo

/-- `w[7:0]` (R9). -/
def lowByte (w : Word) : Byte := w.extractLsb' 0 8

/-- `w[15:8]`, which is also the page of an address (R9, R15). -/
def highByte (w : Word) : Byte := w.extractLsb' 8 8

/-- `zext_16` (R9). -/
def zext16 (v : Byte) : Word := v.zeroExtend 16

/-- `sext_16` (R9): bit 7 set gives `0xFF00 | v`. -/
def sext16 (v : Byte) : Word := v.signExtend 16

/-- `v[k]`, bit `k` counted from the least significant (R9). -/
def bitAt (v : Byte) (k : Nat) : Bool := v.getLsbD k

/-- A flag as the byte 0 or 1, for the rules that add it or shift it in (R281, R337, R338). -/
def flagByte (f : Bool) : Byte := if f then 1#8 else 0#8

end Sys2Proof.Machine
end

