-- ==== Sys2Proof/Syntax.lean ====
section
/-! DEFINITION. The instructions: one constructor per row of spec/opcode_table.json (151 rows, 56 mnemonics; R131).
A constructor is the mnemonic and its addressing mode, and carries the operand bytes that follow the opcode (R101):
`b1` the one operand byte of a format F2 instruction, `addr` or `ptr` the little-endian operand word of a format F3
instruction, `disp` the displacement byte of a branch. Mode suffixes: Acc accumulator, Imm immediate, Zp zero page,
ZpX / ZpY zero page indexed, Abs absolute, AbsX / AbsY absolute indexed, Ind indirect, IndX (zp,X), IndY (zp),Y. -/

namespace Sys2Proof

/-- An instruction (spec/30_encoding.md R131, spec/opcode_table.json). -/
inductive Instr where
  -- spec/40_load_store.md
  | ldaImm (b1 : Byte)
  | ldaZp (b1 : Byte)
  | ldaZpX (b1 : Byte)
  | ldaAbs (addr : Word)
  | ldaAbsX (addr : Word)
  | ldaAbsY (addr : Word)
  | ldaIndX (b1 : Byte)
  | ldaIndY (b1 : Byte)
  | ldxImm (b1 : Byte)
  | ldxZp (b1 : Byte)
  | ldxZpY (b1 : Byte)
  | ldxAbs (addr : Word)
  | ldxAbsY (addr : Word)
  | ldyImm (b1 : Byte)
  | ldyZp (b1 : Byte)
  | ldyZpX (b1 : Byte)
  | ldyAbs (addr : Word)
  | ldyAbsX (addr : Word)
  | staZp (b1 : Byte)
  | staZpX (b1 : Byte)
  | staAbs (addr : Word)
  | staAbsX (addr : Word)
  | staAbsY (addr : Word)
  | staIndX (b1 : Byte)
  | staIndY (b1 : Byte)
  | stxZp (b1 : Byte)
  | stxZpY (b1 : Byte)
  | stxAbs (addr : Word)
  | styZp (b1 : Byte)
  | styZpX (b1 : Byte)
  | styAbs (addr : Word)
  -- spec/41_transfer_stack.md
  | tax
  | tay
  | txa
  | tya
  | tsx
  | txs
  | pha
  | php
  | pla
  | plp
  -- spec/42_arithmetic.md
  | adcImm (b1 : Byte)
  | adcZp (b1 : Byte)
  | adcZpX (b1 : Byte)
  | adcAbs (addr : Word)
  | adcAbsX (addr : Word)
  | adcAbsY (addr : Word)
  | adcIndX (b1 : Byte)
  | adcIndY (b1 : Byte)
  | sbcImm (b1 : Byte)
  | sbcZp (b1 : Byte)
  | sbcZpX (b1 : Byte)
  | sbcAbs (addr : Word)
  | sbcAbsX (addr : Word)
  | sbcAbsY (addr : Word)
  | sbcIndX (b1 : Byte)
  | sbcIndY (b1 : Byte)
  | cmpImm (b1 : Byte)
  | cmpZp (b1 : Byte)
  | cmpZpX (b1 : Byte)
  | cmpAbs (addr : Word)
  | cmpAbsX (addr : Word)
  | cmpAbsY (addr : Word)
  | cmpIndX (b1 : Byte)
  | cmpIndY (b1 : Byte)
  | cpxImm (b1 : Byte)
  | cpxZp (b1 : Byte)
  | cpxAbs (addr : Word)
  | cpyImm (b1 : Byte)
  | cpyZp (b1 : Byte)
  | cpyAbs (addr : Word)
  | incZp (b1 : Byte)
  | incZpX (b1 : Byte)
  | incAbs (addr : Word)
  | incAbsX (addr : Word)
  | decZp (b1 : Byte)
  | decZpX (b1 : Byte)
  | decAbs (addr : Word)
  | decAbsX (addr : Word)
  | inx
  | iny
  | dex
  | dey
  -- spec/43_logic_shift.md
  | andImm (b1 : Byte)
  | andZp (b1 : Byte)
  | andZpX (b1 : Byte)
  | andAbs (addr : Word)
  | andAbsX (addr : Word)
  | andAbsY (addr : Word)
  | andIndX (b1 : Byte)
  | andIndY (b1 : Byte)
  | oraImm (b1 : Byte)
  | oraZp (b1 : Byte)
  | oraZpX (b1 : Byte)
  | oraAbs (addr : Word)
  | oraAbsX (addr : Word)
  | oraAbsY (addr : Word)
  | oraIndX (b1 : Byte)
  | oraIndY (b1 : Byte)
  | eorImm (b1 : Byte)
  | eorZp (b1 : Byte)
  | eorZpX (b1 : Byte)
  | eorAbs (addr : Word)
  | eorAbsX (addr : Word)
  | eorAbsY (addr : Word)
  | eorIndX (b1 : Byte)
  | eorIndY (b1 : Byte)
  | bitZp (b1 : Byte)
  | bitAbs (addr : Word)
  | aslAcc
  | aslZp (b1 : Byte)
  | aslZpX (b1 : Byte)
  | aslAbs (addr : Word)
  | aslAbsX (addr : Word)
  | lsrAcc
  | lsrZp (b1 : Byte)
  | lsrZpX (b1 : Byte)
  | lsrAbs (addr : Word)
  | lsrAbsX (addr : Word)
  | rolAcc
  | rolZp (b1 : Byte)
  | rolZpX (b1 : Byte)
  | rolAbs (addr : Word)
  | rolAbsX (addr : Word)
  | rorAcc
  | rorZp (b1 : Byte)
  | rorZpX (b1 : Byte)
  | rorAbs (addr : Word)
  | rorAbsX (addr : Word)
  -- spec/44_control.md
  | jmpAbs (addr : Word)
  | jmpInd (ptr : Word)
  | jsr (addr : Word)
  | rts
  | rti
  | bcc (disp : Byte)
  | bcs (disp : Byte)
  | beq (disp : Byte)
  | bne (disp : Byte)
  | bmi (disp : Byte)
  | bpl (disp : Byte)
  | bvc (disp : Byte)
  | bvs (disp : Byte)
  -- spec/45_flags_system.md
  | clc
  | cld
  | cli
  | clv
  | sec
  | sed
  | sei
  | nop
  | brk
  deriving DecidableEq, Repr

end Sys2Proof
end

