-- ==== Sys2Proof/Decode.lean ====
section
/-! DEFINITION. The opcode map of spec/30_encoding.md R131, the decoder read from it, and the encoder written beside it.
The decoder looks up the full opcode byte in a table of 256 entries (R103, R130); it never decodes by bit fields. -/

namespace Sys2Proof

open Sys2Proof.Machine

/-- The thirteen addressing-mode tags of spec/30_encoding.md R104 and R110-R122. -/
inductive Mode where
  | implied
  | accumulator
  | immediate
  | zeroPage
  | zeroPageX
  | zeroPageY
  | absolute
  | absoluteX
  | absoluteY
  | indirect
  | indexedIndirectX
  | indirectIndexedY
  | relative
  deriving DecidableEq, Repr

/-- `Bytes(mode)` of R102: how many operand bytes follow the opcode. -/
def modeBytes : Mode → Nat
  | .implied => 0
  | .accumulator => 0
  | .immediate => 1
  | .zeroPage => 1
  | .zeroPageX => 1
  | .zeroPageY => 1
  | .absolute => 2
  | .absoluteX => 2
  | .absoluteY => 2
  | .indirect => 2
  | .indexedIndirectX => 1
  | .indirectIndexedY => 1
  | .relative => 1

/-- The cycle cost column of the opcode table (R130), in the three shapes of R531's table: a plain number, a number
with `*` (one more on a page crossing) and a branch's number with `**`. -/
inductive CycleCost where
  | fixed (base : Nat)
  | crossing (base : Nat)
  | branch (base : Nat)
  deriving DecidableEq, Repr

/-- The three instruction formats of R101: what stands after the opcode, and the instruction it makes. -/
inductive Format where
  | f1 (instr : Instr)
  | f2 (instr : Byte → Instr)
  | f3 (instr : Word → Instr)

/-- One assigned entry of the opcode table (R130): mnemonic, addressing mode, cycle cost, and the instruction. -/
structure OpcodeEntry where
  mnemonic : String
  mode : Mode
  cost : CycleCost
  format : Format

/-- Row 0 of the opcode map (R131): opcodes 0x00 to 0x0F. -/
def opcodeRow0 : List (Option OpcodeEntry) :=
  [some ⟨"BRK", .implied, .fixed 7, .f1 .brk⟩,
   some ⟨"ORA", .indexedIndirectX, .fixed 6, .f2 .oraIndX⟩,
   none, none, none,
   some ⟨"ORA", .zeroPage, .fixed 3, .f2 .oraZp⟩,
   some ⟨"ASL", .zeroPage, .fixed 5, .f2 .aslZp⟩,
   none,
   some ⟨"PHP", .implied, .fixed 3, .f1 .php⟩,
   some ⟨"ORA", .immediate, .fixed 2, .f2 .oraImm⟩,
   some ⟨"ASL", .accumulator, .fixed 2, .f1 .aslAcc⟩,
   none, none,
   some ⟨"ORA", .absolute, .fixed 4, .f3 .oraAbs⟩,
   some ⟨"ASL", .absolute, .fixed 6, .f3 .aslAbs⟩,
   none]

/-- Row 1 of the opcode map (R131): opcodes 0x10 to 0x1F. -/
def opcodeRow1 : List (Option OpcodeEntry) :=
  [some ⟨"BPL", .relative, .branch 2, .f2 .bpl⟩,
   some ⟨"ORA", .indirectIndexedY, .crossing 5, .f2 .oraIndY⟩,
   none, none, none,
   some ⟨"ORA", .zeroPageX, .fixed 4, .f2 .oraZpX⟩,
   some ⟨"ASL", .zeroPageX, .fixed 6, .f2 .aslZpX⟩,
   none,
   some ⟨"CLC", .implied, .fixed 2, .f1 .clc⟩,
   some ⟨"ORA", .absoluteY, .crossing 4, .f3 .oraAbsY⟩,
   none, none, none,
   some ⟨"ORA", .absoluteX, .crossing 4, .f3 .oraAbsX⟩,
   some ⟨"ASL", .absoluteX, .fixed 7, .f3 .aslAbsX⟩,
   none]

/-- Row 2 of the opcode map (R131): opcodes 0x20 to 0x2F. -/
def opcodeRow2 : List (Option OpcodeEntry) :=
  [some ⟨"JSR", .absolute, .fixed 6, .f3 .jsr⟩,
   some ⟨"AND", .indexedIndirectX, .fixed 6, .f2 .andIndX⟩,
   none, none,
   some ⟨"BIT", .zeroPage, .fixed 3, .f2 .bitZp⟩,
   some ⟨"AND", .zeroPage, .fixed 3, .f2 .andZp⟩,
   some ⟨"ROL", .zeroPage, .fixed 5, .f2 .rolZp⟩,
   none,
   some ⟨"PLP", .implied, .fixed 4, .f1 .plp⟩,
   some ⟨"AND", .immediate, .fixed 2, .f2 .andImm⟩,
   some ⟨"ROL", .accumulator, .fixed 2, .f1 .rolAcc⟩,
   none,
   some ⟨"BIT", .absolute, .fixed 4, .f3 .bitAbs⟩,
   some ⟨"AND", .absolute, .fixed 4, .f3 .andAbs⟩,
   some ⟨"ROL", .absolute, .fixed 6, .f3 .rolAbs⟩,
   none]

/-- Row 3 of the opcode map (R131): opcodes 0x30 to 0x3F. -/
def opcodeRow3 : List (Option OpcodeEntry) :=
  [some ⟨"BMI", .relative, .branch 2, .f2 .bmi⟩,
   some ⟨"AND", .indirectIndexedY, .crossing 5, .f2 .andIndY⟩,
   none, none, none,
   some ⟨"AND", .zeroPageX, .fixed 4, .f2 .andZpX⟩,
   some ⟨"ROL", .zeroPageX, .fixed 6, .f2 .rolZpX⟩,
   none,
   some ⟨"SEC", .implied, .fixed 2, .f1 .sec⟩,
   some ⟨"AND", .absoluteY, .crossing 4, .f3 .andAbsY⟩,
   none, none, none,
   some ⟨"AND", .absoluteX, .crossing 4, .f3 .andAbsX⟩,
   some ⟨"ROL", .absoluteX, .fixed 7, .f3 .rolAbsX⟩,
   none]

/-- Row 4 of the opcode map (R131): opcodes 0x40 to 0x4F. -/
def opcodeRow4 : List (Option OpcodeEntry) :=
  [some ⟨"RTI", .implied, .fixed 6, .f1 .rti⟩,
   some ⟨"EOR", .indexedIndirectX, .fixed 6, .f2 .eorIndX⟩,
   none, none, none,
   some ⟨"EOR", .zeroPage, .fixed 3, .f2 .eorZp⟩,
   some ⟨"LSR", .zeroPage, .fixed 5, .f2 .lsrZp⟩,
   none,
   some ⟨"PHA", .implied, .fixed 3, .f1 .pha⟩,
   some ⟨"EOR", .immediate, .fixed 2, .f2 .eorImm⟩,
   some ⟨"LSR", .accumulator, .fixed 2, .f1 .lsrAcc⟩,
   none,
   some ⟨"JMP", .absolute, .fixed 3, .f3 .jmpAbs⟩,
   some ⟨"EOR", .absolute, .fixed 4, .f3 .eorAbs⟩,
   some ⟨"LSR", .absolute, .fixed 6, .f3 .lsrAbs⟩,
   none]

/-- Row 5 of the opcode map (R131): opcodes 0x50 to 0x5F. -/
def opcodeRow5 : List (Option OpcodeEntry) :=
  [some ⟨"BVC", .relative, .branch 2, .f2 .bvc⟩,
   some ⟨"EOR", .indirectIndexedY, .crossing 5, .f2 .eorIndY⟩,
   none, none, none,
   some ⟨"EOR", .zeroPageX, .fixed 4, .f2 .eorZpX⟩,
   some ⟨"LSR", .zeroPageX, .fixed 6, .f2 .lsrZpX⟩,
   none,
   some ⟨"CLI", .implied, .fixed 2, .f1 .cli⟩,
   some ⟨"EOR", .absoluteY, .crossing 4, .f3 .eorAbsY⟩,
   none, none, none,
   some ⟨"EOR", .absoluteX, .crossing 4, .f3 .eorAbsX⟩,
   some ⟨"LSR", .absoluteX, .fixed 7, .f3 .lsrAbsX⟩,
   none]

/-- Row 6 of the opcode map (R131): opcodes 0x60 to 0x6F. -/
def opcodeRow6 : List (Option OpcodeEntry) :=
  [some ⟨"RTS", .implied, .fixed 6, .f1 .rts⟩,
   some ⟨"ADC", .indexedIndirectX, .fixed 6, .f2 .adcIndX⟩,
   none, none, none,
   some ⟨"ADC", .zeroPage, .fixed 3, .f2 .adcZp⟩,
   some ⟨"ROR", .zeroPage, .fixed 5, .f2 .rorZp⟩,
   none,
   some ⟨"PLA", .implied, .fixed 4, .f1 .pla⟩,
   some ⟨"ADC", .immediate, .fixed 2, .f2 .adcImm⟩,
   some ⟨"ROR", .accumulator, .fixed 2, .f1 .rorAcc⟩,
   none,
   some ⟨"JMP", .indirect, .fixed 5, .f3 .jmpInd⟩,
   some ⟨"ADC", .absolute, .fixed 4, .f3 .adcAbs⟩,
   some ⟨"ROR", .absolute, .fixed 6, .f3 .rorAbs⟩,
   none]

/-- Row 7 of the opcode map (R131): opcodes 0x70 to 0x7F. -/
def opcodeRow7 : List (Option OpcodeEntry) :=
  [some ⟨"BVS", .relative, .branch 2, .f2 .bvs⟩,
   some ⟨"ADC", .indirectIndexedY, .crossing 5, .f2 .adcIndY⟩,
   none, none, none,
   some ⟨"ADC", .zeroPageX, .fixed 4, .f2 .adcZpX⟩,
   some ⟨"ROR", .zeroPageX, .fixed 6, .f2 .rorZpX⟩,
   none,
   some ⟨"SEI", .implied, .fixed 2, .f1 .sei⟩,
   some ⟨"ADC", .absoluteY, .crossing 4, .f3 .adcAbsY⟩,
   none, none, none,
   some ⟨"ADC", .absoluteX, .crossing 4, .f3 .adcAbsX⟩,
   some ⟨"ROR", .absoluteX, .fixed 7, .f3 .rorAbsX⟩,
   none]

/-- Row 8 of the opcode map (R131): opcodes 0x80 to 0x8F. -/
def opcodeRow8 : List (Option OpcodeEntry) :=
  [none,
   some ⟨"STA", .indexedIndirectX, .fixed 6, .f2 .staIndX⟩,
   none, none,
   some ⟨"STY", .zeroPage, .fixed 3, .f2 .styZp⟩,
   some ⟨"STA", .zeroPage, .fixed 3, .f2 .staZp⟩,
   some ⟨"STX", .zeroPage, .fixed 3, .f2 .stxZp⟩,
   none,
   some ⟨"DEY", .implied, .fixed 2, .f1 .dey⟩,
   none,
   some ⟨"TXA", .implied, .fixed 2, .f1 .txa⟩,
   none,
   some ⟨"STY", .absolute, .fixed 4, .f3 .styAbs⟩,
   some ⟨"STA", .absolute, .fixed 4, .f3 .staAbs⟩,
   some ⟨"STX", .absolute, .fixed 4, .f3 .stxAbs⟩,
   none]

/-- Row 9 of the opcode map (R131): opcodes 0x90 to 0x9F. -/
def opcodeRow9 : List (Option OpcodeEntry) :=
  [some ⟨"BCC", .relative, .branch 2, .f2 .bcc⟩,
   some ⟨"STA", .indirectIndexedY, .fixed 6, .f2 .staIndY⟩,
   none, none,
   some ⟨"STY", .zeroPageX, .fixed 4, .f2 .styZpX⟩,
   some ⟨"STA", .zeroPageX, .fixed 4, .f2 .staZpX⟩,
   some ⟨"STX", .zeroPageY, .fixed 4, .f2 .stxZpY⟩,
   none,
   some ⟨"TYA", .implied, .fixed 2, .f1 .tya⟩,
   some ⟨"STA", .absoluteY, .fixed 5, .f3 .staAbsY⟩,
   some ⟨"TXS", .implied, .fixed 2, .f1 .txs⟩,
   none, none,
   some ⟨"STA", .absoluteX, .fixed 5, .f3 .staAbsX⟩,
   none, none]

/-- Row A of the opcode map (R131): opcodes 0xA0 to 0xAF. -/
def opcodeRowA : List (Option OpcodeEntry) :=
  [some ⟨"LDY", .immediate, .fixed 2, .f2 .ldyImm⟩,
   some ⟨"LDA", .indexedIndirectX, .fixed 6, .f2 .ldaIndX⟩,
   some ⟨"LDX", .immediate, .fixed 2, .f2 .ldxImm⟩,
   none,
   some ⟨"LDY", .zeroPage, .fixed 3, .f2 .ldyZp⟩,
   some ⟨"LDA", .zeroPage, .fixed 3, .f2 .ldaZp⟩,
   some ⟨"LDX", .zeroPage, .fixed 3, .f2 .ldxZp⟩,
   none,
   some ⟨"TAY", .implied, .fixed 2, .f1 .tay⟩,
   some ⟨"LDA", .immediate, .fixed 2, .f2 .ldaImm⟩,
   some ⟨"TAX", .implied, .fixed 2, .f1 .tax⟩,
   none,
   some ⟨"LDY", .absolute, .fixed 4, .f3 .ldyAbs⟩,
   some ⟨"LDA", .absolute, .fixed 4, .f3 .ldaAbs⟩,
   some ⟨"LDX", .absolute, .fixed 4, .f3 .ldxAbs⟩,
   none]

/-- Row B of the opcode map (R131): opcodes 0xB0 to 0xBF. -/
def opcodeRowB : List (Option OpcodeEntry) :=
  [some ⟨"BCS", .relative, .branch 2, .f2 .bcs⟩,
   some ⟨"LDA", .indirectIndexedY, .crossing 5, .f2 .ldaIndY⟩,
   none, none,
   some ⟨"LDY", .zeroPageX, .fixed 4, .f2 .ldyZpX⟩,
   some ⟨"LDA", .zeroPageX, .fixed 4, .f2 .ldaZpX⟩,
   some ⟨"LDX", .zeroPageY, .fixed 4, .f2 .ldxZpY⟩,
   none,
   some ⟨"CLV", .implied, .fixed 2, .f1 .clv⟩,
   some ⟨"LDA", .absoluteY, .crossing 4, .f3 .ldaAbsY⟩,
   some ⟨"TSX", .implied, .fixed 2, .f1 .tsx⟩,
   none,
   some ⟨"LDY", .absoluteX, .crossing 4, .f3 .ldyAbsX⟩,
   some ⟨"LDA", .absoluteX, .crossing 4, .f3 .ldaAbsX⟩,
   some ⟨"LDX", .absoluteY, .crossing 4, .f3 .ldxAbsY⟩,
   none]

/-- Row C of the opcode map (R131): opcodes 0xC0 to 0xCF. -/
def opcodeRowC : List (Option OpcodeEntry) :=
  [some ⟨"CPY", .immediate, .fixed 2, .f2 .cpyImm⟩,
   some ⟨"CMP", .indexedIndirectX, .fixed 6, .f2 .cmpIndX⟩,
   none, none,
   some ⟨"CPY", .zeroPage, .fixed 3, .f2 .cpyZp⟩,
   some ⟨"CMP", .zeroPage, .fixed 3, .f2 .cmpZp⟩,
   some ⟨"DEC", .zeroPage, .fixed 5, .f2 .decZp⟩,
   none,
   some ⟨"INY", .implied, .fixed 2, .f1 .iny⟩,
   some ⟨"CMP", .immediate, .fixed 2, .f2 .cmpImm⟩,
   some ⟨"DEX", .implied, .fixed 2, .f1 .dex⟩,
   none,
   some ⟨"CPY", .absolute, .fixed 4, .f3 .cpyAbs⟩,
   some ⟨"CMP", .absolute, .fixed 4, .f3 .cmpAbs⟩,
   some ⟨"DEC", .absolute, .fixed 6, .f3 .decAbs⟩,
   none]

/-- Row D of the opcode map (R131): opcodes 0xD0 to 0xDF. -/
def opcodeRowD : List (Option OpcodeEntry) :=
  [some ⟨"BNE", .relative, .branch 2, .f2 .bne⟩,
   some ⟨"CMP", .indirectIndexedY, .crossing 5, .f2 .cmpIndY⟩,
   none, none, none,
   some ⟨"CMP", .zeroPageX, .fixed 4, .f2 .cmpZpX⟩,
   some ⟨"DEC", .zeroPageX, .fixed 6, .f2 .decZpX⟩,
   none,
   some ⟨"CLD", .implied, .fixed 2, .f1 .cld⟩,
   some ⟨"CMP", .absoluteY, .crossing 4, .f3 .cmpAbsY⟩,
   none, none, none,
   some ⟨"CMP", .absoluteX, .crossing 4, .f3 .cmpAbsX⟩,
   some ⟨"DEC", .absoluteX, .fixed 7, .f3 .decAbsX⟩,
   none]

/-- Row E of the opcode map (R131): opcodes 0xE0 to 0xEF. -/
def opcodeRowE : List (Option OpcodeEntry) :=
  [some ⟨"CPX", .immediate, .fixed 2, .f2 .cpxImm⟩,
   some ⟨"SBC", .indexedIndirectX, .fixed 6, .f2 .sbcIndX⟩,
   none, none,
   some ⟨"CPX", .zeroPage, .fixed 3, .f2 .cpxZp⟩,
   some ⟨"SBC", .zeroPage, .fixed 3, .f2 .sbcZp⟩,
   some ⟨"INC", .zeroPage, .fixed 5, .f2 .incZp⟩,
   none,
   some ⟨"INX", .implied, .fixed 2, .f1 .inx⟩,
   some ⟨"SBC", .immediate, .fixed 2, .f2 .sbcImm⟩,
   some ⟨"NOP", .implied, .fixed 2, .f1 .nop⟩,
   none,
   some ⟨"CPX", .absolute, .fixed 4, .f3 .cpxAbs⟩,
   some ⟨"SBC", .absolute, .fixed 4, .f3 .sbcAbs⟩,
   some ⟨"INC", .absolute, .fixed 6, .f3 .incAbs⟩,
   none]

/-- Row F of the opcode map (R131): opcodes 0xF0 to 0xFF. -/
def opcodeRowF : List (Option OpcodeEntry) :=
  [some ⟨"BEQ", .relative, .branch 2, .f2 .beq⟩,
   some ⟨"SBC", .indirectIndexedY, .crossing 5, .f2 .sbcIndY⟩,
   none, none, none,
   some ⟨"SBC", .zeroPageX, .fixed 4, .f2 .sbcZpX⟩,
   some ⟨"INC", .zeroPageX, .fixed 6, .f2 .incZpX⟩,
   none,
   some ⟨"SED", .implied, .fixed 2, .f1 .sed⟩,
   some ⟨"SBC", .absoluteY, .crossing 4, .f3 .sbcAbsY⟩,
   none, none, none,
   some ⟨"SBC", .absoluteX, .crossing 4, .f3 .sbcAbsX⟩,
   some ⟨"INC", .absoluteX, .fixed 7, .f3 .incAbsX⟩,
   none]

/-- The 256-entry opcode table (R130, R131), row = high nibble, column = low nibble; `none` is Illegal. -/
def opcodeRows : List (List (Option OpcodeEntry)) :=
  [opcodeRow0, opcodeRow1, opcodeRow2, opcodeRow3, opcodeRow4, opcodeRow5, opcodeRow6, opcodeRow7,
   opcodeRow8, opcodeRow9, opcodeRowA, opcodeRowB, opcodeRowC, opcodeRowD, opcodeRowE, opcodeRowF]

/-- The table indexed by the full opcode byte (R103, R130). -/
def opcodeEntry (op : Byte) : Option OpcodeEntry :=
  ((opcodeRows.getD (op.toNat / 16) []).getD (op.toNat % 16) none)

/-- The instruction a format makes of the two bytes after the opcode; F1 looks at neither, F2 only at the first (R101). -/
def buildInstr (f : Format) (b1 b2 : Byte) : Instr :=
  match f with
  | .f1 instr => instr
  | .f2 instr => instr b1
  | .f3 instr => instr (wordOf b2 b1)

/-- The instruction whose opcode is `op` and whose next two bytes are `b1` and `b2`; `none` for an illegal opcode (R131, R132). -/
def decodeOpcode (op b1 b2 : Byte) : Option Instr :=
  match opcodeEntry op with
  | none => none
  | some e => some (buildInstr e.format b1 b2)

/-- What the decoder answers for a list of bytes: an instruction with the bytes after it, or a rejection by name. -/
inductive Decoded where
  /-- The bytes begin with this instruction; `rest` follows it. -/
  | instr (i : Instr) (rest : List Byte)
  /-- The first byte is one of the 105 illegal opcodes (R132). -/
  | illegalOpcode (op : Byte)
  /-- The opcode is assigned, but the list ends before its operand bytes do; memory never ends so (R62). -/
  | truncated (op : Byte)
  /-- There is no byte. -/
  | noByte
  deriving DecidableEq, Repr

/-- Decode the front of a list of bytes (R100-R102); total, every list gets an answer. -/
def decodeBytes : List Byte → Decoded
  | [] => .noByte
  | op :: rest =>
    match opcodeEntry op with
    | none => .illegalOpcode op
    | some e =>
      if rest.length < modeBytes e.mode then .truncated op
      else .instr (buildInstr e.format (rest.getD 0 0#8) (rest.getD 1 0#8)) (rest.drop (modeBytes e.mode))

/-- The bytes of an instruction, at PC, PC + 1, PC + 2 (R100, R101), written from the per-mnemonic list of R131. -/
def encode (i : Instr) : List Byte :=
  match i with
  | .ldaImm b1 => [0xA9#8, b1]
  | .ldaZp b1 => [0xA5#8, b1]
  | .ldaZpX b1 => [0xB5#8, b1]
  | .ldaAbs addr => [0xAD#8, lowByte addr, highByte addr]
  | .ldaAbsX addr => [0xBD#8, lowByte addr, highByte addr]
  | .ldaAbsY addr => [0xB9#8, lowByte addr, highByte addr]
  | .ldaIndX b1 => [0xA1#8, b1]
  | .ldaIndY b1 => [0xB1#8, b1]
  | .ldxImm b1 => [0xA2#8, b1]
  | .ldxZp b1 => [0xA6#8, b1]
  | .ldxZpY b1 => [0xB6#8, b1]
  | .ldxAbs addr => [0xAE#8, lowByte addr, highByte addr]
  | .ldxAbsY addr => [0xBE#8, lowByte addr, highByte addr]
  | .ldyImm b1 => [0xA0#8, b1]
  | .ldyZp b1 => [0xA4#8, b1]
  | .ldyZpX b1 => [0xB4#8, b1]
  | .ldyAbs addr => [0xAC#8, lowByte addr, highByte addr]
  | .ldyAbsX addr => [0xBC#8, lowByte addr, highByte addr]
  | .staZp b1 => [0x85#8, b1]
  | .staZpX b1 => [0x95#8, b1]
  | .staAbs addr => [0x8D#8, lowByte addr, highByte addr]
  | .staAbsX addr => [0x9D#8, lowByte addr, highByte addr]
  | .staAbsY addr => [0x99#8, lowByte addr, highByte addr]
  | .staIndX b1 => [0x81#8, b1]
  | .staIndY b1 => [0x91#8, b1]
  | .stxZp b1 => [0x86#8, b1]
  | .stxZpY b1 => [0x96#8, b1]
  | .stxAbs addr => [0x8E#8, lowByte addr, highByte addr]
  | .styZp b1 => [0x84#8, b1]
  | .styZpX b1 => [0x94#8, b1]
  | .styAbs addr => [0x8C#8, lowByte addr, highByte addr]
  | .tax => [0xAA#8]
  | .tay => [0xA8#8]
  | .txa => [0x8A#8]
  | .tya => [0x98#8]
  | .tsx => [0xBA#8]
  | .txs => [0x9A#8]
  | .pha => [0x48#8]
  | .php => [0x08#8]
  | .pla => [0x68#8]
  | .plp => [0x28#8]
  | .adcImm b1 => [0x69#8, b1]
  | .adcZp b1 => [0x65#8, b1]
  | .adcZpX b1 => [0x75#8, b1]
  | .adcAbs addr => [0x6D#8, lowByte addr, highByte addr]
  | .adcAbsX addr => [0x7D#8, lowByte addr, highByte addr]
  | .adcAbsY addr => [0x79#8, lowByte addr, highByte addr]
  | .adcIndX b1 => [0x61#8, b1]
  | .adcIndY b1 => [0x71#8, b1]
  | .sbcImm b1 => [0xE9#8, b1]
  | .sbcZp b1 => [0xE5#8, b1]
  | .sbcZpX b1 => [0xF5#8, b1]
  | .sbcAbs addr => [0xED#8, lowByte addr, highByte addr]
  | .sbcAbsX addr => [0xFD#8, lowByte addr, highByte addr]
  | .sbcAbsY addr => [0xF9#8, lowByte addr, highByte addr]
  | .sbcIndX b1 => [0xE1#8, b1]
  | .sbcIndY b1 => [0xF1#8, b1]
  | .cmpImm b1 => [0xC9#8, b1]
  | .cmpZp b1 => [0xC5#8, b1]
  | .cmpZpX b1 => [0xD5#8, b1]
  | .cmpAbs addr => [0xCD#8, lowByte addr, highByte addr]
  | .cmpAbsX addr => [0xDD#8, lowByte addr, highByte addr]
  | .cmpAbsY addr => [0xD9#8, lowByte addr, highByte addr]
  | .cmpIndX b1 => [0xC1#8, b1]
  | .cmpIndY b1 => [0xD1#8, b1]
  | .cpxImm b1 => [0xE0#8, b1]
  | .cpxZp b1 => [0xE4#8, b1]
  | .cpxAbs addr => [0xEC#8, lowByte addr, highByte addr]
  | .cpyImm b1 => [0xC0#8, b1]
  | .cpyZp b1 => [0xC4#8, b1]
  | .cpyAbs addr => [0xCC#8, lowByte addr, highByte addr]
  | .incZp b1 => [0xE6#8, b1]
  | .incZpX b1 => [0xF6#8, b1]
  | .incAbs addr => [0xEE#8, lowByte addr, highByte addr]
  | .incAbsX addr => [0xFE#8, lowByte addr, highByte addr]
  | .decZp b1 => [0xC6#8, b1]
  | .decZpX b1 => [0xD6#8, b1]
  | .decAbs addr => [0xCE#8, lowByte addr, highByte addr]
  | .decAbsX addr => [0xDE#8, lowByte addr, highByte addr]
  | .inx => [0xE8#8]
  | .iny => [0xC8#8]
  | .dex => [0xCA#8]
  | .dey => [0x88#8]
  | .andImm b1 => [0x29#8, b1]
  | .andZp b1 => [0x25#8, b1]
  | .andZpX b1 => [0x35#8, b1]
  | .andAbs addr => [0x2D#8, lowByte addr, highByte addr]
  | .andAbsX addr => [0x3D#8, lowByte addr, highByte addr]
  | .andAbsY addr => [0x39#8, lowByte addr, highByte addr]
  | .andIndX b1 => [0x21#8, b1]
  | .andIndY b1 => [0x31#8, b1]
  | .oraImm b1 => [0x09#8, b1]
  | .oraZp b1 => [0x05#8, b1]
  | .oraZpX b1 => [0x15#8, b1]
  | .oraAbs addr => [0x0D#8, lowByte addr, highByte addr]
  | .oraAbsX addr => [0x1D#8, lowByte addr, highByte addr]
  | .oraAbsY addr => [0x19#8, lowByte addr, highByte addr]
  | .oraIndX b1 => [0x01#8, b1]
  | .oraIndY b1 => [0x11#8, b1]
  | .eorImm b1 => [0x49#8, b1]
  | .eorZp b1 => [0x45#8, b1]
  | .eorZpX b1 => [0x55#8, b1]
  | .eorAbs addr => [0x4D#8, lowByte addr, highByte addr]
  | .eorAbsX addr => [0x5D#8, lowByte addr, highByte addr]
  | .eorAbsY addr => [0x59#8, lowByte addr, highByte addr]
  | .eorIndX b1 => [0x41#8, b1]
  | .eorIndY b1 => [0x51#8, b1]
  | .bitZp b1 => [0x24#8, b1]
  | .bitAbs addr => [0x2C#8, lowByte addr, highByte addr]
  | .aslAcc => [0x0A#8]
  | .aslZp b1 => [0x06#8, b1]
  | .aslZpX b1 => [0x16#8, b1]
  | .aslAbs addr => [0x0E#8, lowByte addr, highByte addr]
  | .aslAbsX addr => [0x1E#8, lowByte addr, highByte addr]
  | .lsrAcc => [0x4A#8]
  | .lsrZp b1 => [0x46#8, b1]
  | .lsrZpX b1 => [0x56#8, b1]
  | .lsrAbs addr => [0x4E#8, lowByte addr, highByte addr]
  | .lsrAbsX addr => [0x5E#8, lowByte addr, highByte addr]
  | .rolAcc => [0x2A#8]
  | .rolZp b1 => [0x26#8, b1]
  | .rolZpX b1 => [0x36#8, b1]
  | .rolAbs addr => [0x2E#8, lowByte addr, highByte addr]
  | .rolAbsX addr => [0x3E#8, lowByte addr, highByte addr]
  | .rorAcc => [0x6A#8]
  | .rorZp b1 => [0x66#8, b1]
  | .rorZpX b1 => [0x76#8, b1]
  | .rorAbs addr => [0x6E#8, lowByte addr, highByte addr]
  | .rorAbsX addr => [0x7E#8, lowByte addr, highByte addr]
  | .jmpAbs addr => [0x4C#8, lowByte addr, highByte addr]
  | .jmpInd ptr => [0x6C#8, lowByte ptr, highByte ptr]
  | .jsr addr => [0x20#8, lowByte addr, highByte addr]
  | .rts => [0x60#8]
  | .rti => [0x40#8]
  | .bcc disp => [0x90#8, disp]
  | .bcs disp => [0xB0#8, disp]
  | .beq disp => [0xF0#8, disp]
  | .bne disp => [0xD0#8, disp]
  | .bmi disp => [0x30#8, disp]
  | .bpl disp => [0x10#8, disp]
  | .bvc disp => [0x50#8, disp]
  | .bvs disp => [0x70#8, disp]
  | .clc => [0x18#8]
  | .cld => [0xD8#8]
  | .cli => [0x58#8]
  | .clv => [0xB8#8]
  | .sec => [0x38#8]
  | .sed => [0xF8#8]
  | .sei => [0x78#8]
  | .nop => [0xEA#8]
  | .brk => [0x00#8]

/-- The opcode byte of an instruction (R100). -/
def opcodeOf (i : Instr) : Byte := (encode i).headD 0#8

/-- The instruction's own row of the opcode table: the entry under its opcode (R130). -/
def entryOf (i : Instr) : Option OpcodeEntry := opcodeEntry (opcodeOf i)

/-- The addressing mode of an instruction (R100: selected by the opcode). -/
def modeOf (i : Instr) : Mode :=
  match entryOf i with
  | none => .implied
  | some e => e.mode

/-- The mnemonic of an instruction (R131). -/
def mnemonicOf (i : Instr) : String :=
  match entryOf i with
  | none => ""
  | some e => e.mnemonic

/-- The cycle cost column of an instruction (R130, R531). -/
def costOf (i : Instr) : CycleCost :=
  match entryOf i with
  | none => .fixed 0
  | some e => e.cost

/-- `L = 1 + Bytes(mode(opcode))` (R102). -/
def lengthOf (i : Instr) : Nat := 1 + modeBytes (modeOf i)

/-- Byte `k` of an instruction whose bits are `w`, numbered as spec/opcode_table.json numbers them; the bits at and
above `nbits` are 0. -/
def tableByte (nbits w k : Nat) : Byte := BitVec.ofNat 8 ((w % 2 ^ nbits) / 2 ^ (8 * k))

/-- The three bytes at the lowest addresses of such an instruction; the longest instruction has three (R101). -/
def tableBytes (nbits w : Nat) : List Byte := [tableByte nbits w 0, tableByte nbits w 1, tableByte nbits w 2]

/-- What the decoder reads from an instruction whose bits are `w`. -/
def decodeTableWord (nbits w : Nat) : Option Instr :=
  match decodeBytes (tableBytes nbits w) with
  | .instr i _ => some i
  | .illegalOpcode _ => none
  | .truncated _ => none
  | .noByte => none

end Sys2Proof
end

