-- ==== Sys2Proof/Config.lean ====
section
/-! DEFINITION. The named parameters of spec/00_scope.md R8 that the core's rules read.
INIT_MEM, INIT_REGS and PROGRAM_ORIGIN of R8 have their values in Machine/Platform.lean; no rule of a step reads them.
The spec leaves no instruction's result open, so the model has no free value. -/

namespace Sys2Proof

/-- `DECIMAL_MODE` (R8, decision D13): whether ADC and SBC obey D = 1 with the NMOS BCD rules or ignore D. -/
inductive DecimalMode where
  | nmos
  | binary
  deriving DecidableEq, Repr

/-- The parameters one machine is built with (R8). -/
structure Config where
  /-- `DECIMAL_MODE`, decision D13. -/
  decimalMode : DecimalMode
  /-- `JMP_IND_PAGE_WRAP`, decision D12: whether JMP (ind) reads the pointer's high byte from the pointer's own page. -/
  jmpIndPageWrap : Bool
  deriving DecidableEq, Repr

end Sys2Proof
end

