-- ==== Sys2Proof/Machine/Platform.lean ====
section
/-! DEFINITION. The architectural constants of spec/00_scope.md R7, the defaults of its named parameters (R8), and the
values the model names where the spec gives none: registers, flags and memory at power-on (R520, log entries 1 and 2). -/

namespace Sys2Proof.Machine

/-- The NMI vector's low byte address (R7, R462). -/
def nmiVector : Word := 0xFFFA#16

/-- The RESET vector's low byte address (R7, R521). -/
def resetVector : Word := 0xFFFC#16

/-- The vector of IRQ and of BRK (R7, R463, R429). -/
def irqVector : Word := 0xFFFE#16

/-- The high byte of every stack address (R7, R29). -/
def stackPage : Byte := 0x01#8

/-- The high byte of every zero-page address (R15, R113). -/
def zeroPage : Byte := 0x00#8

/-- SP after RESET (R7, R521, decision D16). -/
def resetSp : Byte := 0xFD#8

/-- `PROGRAM_ORIGIN` at its default (R8, decision D23): the loader's choice; no rule of a step reads it. -/
def programOrigin : Word := 0x0600#16

/-- `DECIMAL_MODE` at its default (R8, decision D13). -/
def defaultDecimalMode : DecimalMode := .nmos

/-- `JMP_IND_PAGE_WRAP` at its default (R8, decision D12). -/
def defaultJmpIndPageWrap : Bool := false

/-- What a byte of memory reads as that nothing has written. DESIGN CHOICE, unsafe: R520 leaves it unspecified (log entry 2). -/
def unlistedByte : Byte := 0x00#8

/-- Power-on value of A, X, Y and SP. DESIGN CHOICE, unsafe: R520 leaves it unspecified (log entry 1). -/
def powerOnByte : Byte := 0x00#8

/-- Power-on value of PC. DESIGN CHOICE, unsafe: R520 leaves it unspecified (log entry 1). -/
def powerOnPc : Word := 0x0000#16

/-- Power-on value of each of the seven flags. DESIGN CHOICE, unsafe: R520 leaves it unspecified (log entry 1). -/
def powerOnFlag : Bool := false

end Sys2Proof.Machine
end

