-- ==== Sys2Proof/Machine/State.lean ====
section
/-! DEFINITION. The architectural state of spec/10_state.md R20, the reasons a step can stop, and the state after RESET. -/

namespace Sys2Proof.Machine

/-- Memory as (address, byte) pairs in one canonical form: addresses strictly rising and below 65536, and no entry equal
to what an unlisted address reads as (`Memory.wf`). Every one of the 65536 cells of R60 is there; those not listed read
as `unlistedByte`. -/
abbrev Memory := List Host.Cell

/-- The canonical form of a memory. -/
abbrev Memory.wf (m : Memory) : Prop :=
  m.Pairwise (fun p q => p.1 < q.1) ∧ ∀ p ∈ m, p.1 < 65536 ∧ p.2 ≠ unlistedByte

/-- The state vector `(A, X, Y, SP, PC, C, Z, I, D, B, V, N, mem)` of R20, and the parameters the machine is built with
(R8), which no transaction changes (log entry 3). -/
structure State where
  /-- Accumulator `A` (R22). -/
  a : Byte
  /-- Index register `X` (R22). -/
  x : Byte
  /-- Index register `Y` (R22). -/
  y : Byte
  /-- Stack pointer `SP` into page 0x01 (R29). -/
  sp : Byte
  /-- Program counter `PC`: between steps, the address of the next opcode (R25). -/
  pc : Word
  /-- Carry `C` (R32). -/
  c : Bool
  /-- Zero `Z` (R33). -/
  z : Bool
  /-- Interrupt-disable `I` (R34). -/
  i : Bool
  /-- Decimal `D` (R35). -/
  d : Bool
  /-- Break `B`, a stored slot in this design (R36, decision D3). -/
  b : Bool
  /-- Overflow `V` (R37). -/
  v : Bool
  /-- Negative `N` (R38). -/
  n : Bool
  /-- The 64 KiB memory (R60). -/
  mem : Memory
  /-- The machine's named parameters (R8): the model's own field, constant along every run. -/
  cfg : Config
  deriving DecidableEq, Repr

/-- Why the machine stops with a fault. -/
inductive Fault where
  /-- Raised by `step` alone, when the opcode byte at PC is one of the 105 of R132; the state before the step is the
  state after it (R470, decision D6). Safe: the spec itself asks a model to treat this outcome as a fault. -/
  | illegalOpcode (op : Byte)
  deriving DecidableEq, Repr

/-- Why the model answers nothing for an instruction. -/
inductive Refusal where
  /-- Raised by an arm of `exec` whose instruction has no meaning yet; no arm of this model raises it. Safe: the run
  stops where the hardware would go on. -/
  | notModelled (mnemonic : String)
  deriving DecidableEq, Repr

/-- The outcome of a step of this machine. -/
abbrev Result := Host.Outcome State Fault Refusal

/-- The machine at power-on, before the first RESET: R520 leaves every value unspecified; the values are the model's
(log entries 1 and 2), the parameters are the spec's defaults (R8). -/
def State.powerOn : State where
  a := powerOnByte
  x := powerOnByte
  y := powerOnByte
  sp := powerOnByte
  pc := powerOnPc
  c := powerOnFlag
  z := powerOnFlag
  i := powerOnFlag
  d := powerOnFlag
  b := powerOnFlag
  v := powerOnFlag
  n := powerOnFlag
  mem := []
  cfg := { decimalMode := defaultDecimalMode, jmpIndPageWrap := defaultJmpIndPageWrap }

/-- The machine right after RESET from power-on (R43, R521, R522): SP = 0xFD, I = 1, B = 0, PC the word at the RESET
vector (both of its bytes are unlisted), everything else as at power-on. `Laws.reset_is_resetPin` shows that this is the
RESET transaction applied to `State.powerOn`. -/
def State.reset : State :=
  { State.powerOn with
    sp := resetSp
    i := true
    b := false
    pc := wordOf unlistedByte unlistedByte }

end Sys2Proof.Machine
end

