-- ==== Sys2Proof/Machine/Flags.lean ====
section
/-! DEFINITION. The flag computations: SetZN (spec/00_scope.md R10), the status byte (spec/10_state.md R31), and the
helpers of spec/42_arithmetic.md R281-R283 and R286. -/

namespace Sys2Proof.Machine

/-- `SetZN(v)`: Z from `v = 0`, N from `v[7]` (R10). -/
def setZN (v : Byte) (s : State) : State := { s with z := v == 0#8, n := bitAt v 7 }

/-- The status byte `P = {N, V, 1, B, D, I, Z, C}`, bit 7 down to bit 0 (R31, decision D2); bit 5 has no slot and reads
as 1; bit 4 is the stored B (decision D3). -/
def statusByte (s : State) : Byte :=
  BitVec.ofBool s.n ++ BitVec.ofBool s.v ++ 1#1 ++ BitVec.ofBool s.b ++
    BitVec.ofBool s.d ++ BitVec.ofBool s.i ++ BitVec.ofBool s.z ++ BitVec.ofBool s.c

/-- The seven flags loaded from a status byte; bit 5 is discarded (R75). -/
def setStatus (p : Byte) (s : State) : State :=
  { s with n := bitAt p 7, v := bitAt p 6, b := bitAt p 4, d := bitAt p 3, i := bitAt p 2, z := bitAt p 1, c := bitAt p 0 }

/-- What `AddBinary` answers (R281). -/
structure BinarySum where
  result : Byte
  carry : Bool
  overflow : Bool
  deriving DecidableEq, Repr

/-- `AddBinary(a, m, c)` (R281): the exact sum, narrowed; carry out; V from the signs of the operands and the result. -/
def addBinary (a m : Byte) (c : Bool) : BinarySum :=
  let sum : Nat := a.toNat + m.toNat + c.toNat
  let result : Byte := BitVec.ofNat 8 sum
  { result := result
    carry := decide (256 ≤ sum)
    overflow := bitAt ((a ^^^ result) &&& (m ^^^ result)) 7 }

/-- What `AdcDecimal` answers (R282). -/
structure DecimalSum where
  result : Byte
  carry : Bool
  negative : Bool
  overflow : Bool
  zero : Bool
  deriving DecidableEq, Repr

/-- The low digit of a decimal addition after its adjust: `al` of R282. -/
def decimalLowSum (a m : Byte) (c : Bool) : Nat :=
  let al : Nat := (a &&& 0x0F#8).toNat + (m &&& 0x0F#8).toNat + c.toNat
  if 0x0A ≤ al then (al + 0x06) % 16 + 0x10 else al

/-- `AdcDecimal(a, m, c)`, the NMOS decimal addition (R282, decision D13). -/
def adcDecimal (a m : Byte) (c : Bool) : DecimalSum :=
  let al : Nat := decimalLowSum a m c
  let s1 : Nat := (a &&& 0xF0#8).toNat + (m &&& 0xF0#8).toNat + al
  let t : Int := (a &&& 0xF0#8).toInt + (m &&& 0xF0#8).toInt + (al : Int)
  let s2 : Nat := if 0xA0 ≤ s1 then s1 + 0x60 else s1
  { result := BitVec.ofNat 8 s2
    carry := decide (0x100 ≤ s2)
    negative := bitAt (BitVec.ofNat 8 s1) 7
    overflow := decide (t < -128) || decide (127 < t)
    zero := decide ((a.toNat + m.toNat + c.toNat) % 256 = 0) }

/-- The low digit of a decimal subtraction after its adjust: `al` of R283. -/
def decimalLowDifference (a m : Byte) (c : Bool) : Int :=
  let al : Int := ((a &&& 0x0F#8).toNat : Int) - ((m &&& 0x0F#8).toNat : Int) + (c.toNat : Int) - 1
  if al < 0 then (al - 0x06) % 16 - 0x10 else al

/-- `SbcDecimal(a, m, c)`, the NMOS decimal subtraction result (R283, decision D13). -/
def sbcDecimal (a m : Byte) (c : Bool) : Byte :=
  let s : Int := ((a &&& 0xF0#8).toNat : Int) - ((m &&& 0xF0#8).toNat : Int) + decimalLowDifference a m c
  BitVec.ofInt 8 (if s < 0 then s - 0x60 else s)

/-- `Compare(r, m)`: C from the unsigned comparison, Z and N from the 8-bit difference (R286). -/
def compareWith (r m : Byte) (s : State) : State :=
  setZN (r - m) { s with c := decide (m.toNat ≤ r.toNat) }

end Sys2Proof.Machine
end

