-- ==== Sys2Proof/Machine/Ops.lean ====
section
/-! DEFINITION. The named operations: the memory bus (spec/20_memory.md R60-R66), the word accesses (spec/00_scope.md
R11), the stack unit (R70-R77), and interrupt entry and return (spec/60_exceptions.md R464, spec/44_control.md R384). -/

namespace Sys2Proof.Machine

/-- The byte at `addr`: the listed one, or what an unlisted address reads as (R63). -/
def Memory.read (m : Memory) (addr : Word) : Byte := (m.lookup addr.toNat).getD unlistedByte

/-- Put a cell before the first cell of a higher address. -/
def Memory.insertCell (cell : Host.Cell) : Memory → Memory
  | [] => [cell]
  | p :: rest => if cell.1 < p.1 then cell :: p :: rest else p :: Memory.insertCell cell rest

/-- The memory with `v` at `addr` (R63); the canonical form is kept by listing nothing that an unlisted address reads as. -/
def Memory.write (m : Memory) (addr : Word) (v : Byte) : Memory :=
  let others : Memory := m.filter (fun p => p.1 != addr.toNat)
  if v = unlistedByte then others else Memory.insertCell (addr.toNat, v) others

/-- `MemRead(addr, 1)` (R11, R61): no read fails and no read changes anything. -/
def memRead (s : State) (addr : Word) : Byte := Memory.read s.mem addr

/-- `MemWrite(addr, 1, v)` (R11, R61): no write fails; every byte is RAM (R63, decision D18). -/
def memWrite (s : State) (addr : Word) (v : Byte) : State := { s with mem := Memory.write s.mem addr v }

/-- `ReadWord(addr)`: low byte at `addr`, high byte at `addr + 1` modulo 65536 (R11, R64). -/
def readWord (s : State) (addr : Word) : Word := wordOf (memRead s (addr + 1#16)) (memRead s addr)

/-- `WriteWord(addr, w)`: `w[7:0]` at `addr`, then `w[15:8]` at `addr + 1` (R11). -/
def writeWord (s : State) (addr w : Word) : State :=
  memWrite (memWrite s addr (lowByte w)) (addr + 1#16) (highByte w)

/-- The zero-page address of a byte: `{0x00, p}` (R113). -/
def zeroPageAddress (p : Byte) : Word := wordOf zeroPage p

/-- `ReadWordZP(p)`: both bytes from page zero, `p + 1` modulo 256 (R11, decision D11). -/
def readWordZP (s : State) (p : Byte) : Word :=
  wordOf (memRead s (zeroPageAddress (p + 1#8))) (memRead s (zeroPageAddress p))

/-- `PC <- NextPC` for an instruction of `len` bytes: PC + L modulo 65536 (R26, R102). -/
def advance (len : Word) (s : State) : State := { s with pc := s.pc + len }

/-- `PC <- target` (R12, R141). -/
def jumpTo (target : Word) (s : State) : State := { s with pc := target }

/-- The stack slot that SP points at: `{0x01, SP}` (R29). -/
def stackAddress (sp : Byte) : Word := wordOf stackPage sp

/-- `PushByte(b)`: write at `{0x01, SP}`, then SP - 1 modulo 256 (R70, R77). -/
def pushByte (v : Byte) (s : State) : State := { memWrite s (stackAddress s.sp) v with sp := s.sp - 1#8 }

/-- `PopByte()`: SP + 1 modulo 256, then read `{0x01, SP}`; the byte and the state after (R71, R77). -/
def popByte (s : State) : Byte × State :=
  (memRead s (stackAddress (s.sp + 1#8)), { s with sp := s.sp + 1#8 })

/-- `PushWord(w)`: high byte, then low byte (R72). -/
def pushWord (w : Word) (s : State) : State := pushByte (lowByte w) (pushByte (highByte w) s)

/-- `PopWord()`: low byte, then high byte; the word and the state after (R73). -/
def popWord (s : State) : Word × State :=
  let lo := popByte s
  let hi := popByte lo.2
  (wordOf hi.1 lo.1, hi.2)

/-- `PushFlags()`: push the status byte, bit 4 the stored B (R74). -/
def pushFlags (s : State) : State := pushByte (statusByte s) s

/-- `PopFlags()`: pull a byte and load the seven flags from it (R75). -/
def popFlags (s : State) : State :=
  let p := popByte s
  setStatus p.1 p.2

/-- TAKING AN EXCEPTION: `InterruptEntry(vec)` of R464, shared by NMI, IRQ and BRK. The return address and then the status
go on the stack, I becomes 1, PC is loaded from the vector after the pushes; the single mode does not change (R473).
`returnAddr` is PC for a pin (R464) and PC + 2 for BRK (R429, decision D7). -/
def interruptEntry (returnAddr vec : Word) (s : State) : State :=
  let saved : State := pushFlags (pushWord returnAddr s)
  { saved with i := true, pc := readWord saved vec }

/-- RETURN FROM AN EXCEPTION: `PopFlags(); PC <- PopWord()`, no + 1 (R384, R467). -/
def returnFromInterrupt (s : State) : State :=
  let r := popWord (popFlags s)
  jumpTo r.1 r.2

end Sys2Proof.Machine
end

