-- ==== Sys2Proof/Machine/Operands.lean ====
section
/-! DEFINITION. The addressing-mode resolver of spec/30_encoding.md R104-R122. It only reads: no register, flag or byte of
memory changes. -/

namespace Sys2Proof.Machine

/-- A data operand in memory, with the operand bytes that follow the opcode (R113-R118, R120, R121). -/
inductive AddrMode where
  | zp (b1 : Byte)
  | zpX (b1 : Byte)
  | zpY (b1 : Byte)
  | abs (addr : Word)
  | absX (addr : Word)
  | absY (addr : Word)
  | indX (b1 : Byte)
  | indY (b1 : Byte)
  deriving DecidableEq, Repr

/-- The address before the final index is added, for the modes that index a 16-bit base (R117, R118, R121); for the others the
effective address itself. -/
def baseAddress (mode : AddrMode) (s : State) : Word :=
  match mode with
  | .zp b1 => zeroPageAddress b1
  | .zpX b1 => zeroPageAddress (b1 + s.x)
  | .zpY b1 => zeroPageAddress (b1 + s.y)
  | .abs addr => addr
  | .absX addr => addr
  | .absY addr => addr
  | .indX b1 => readWordZP s (b1 + s.x)
  | .indY b1 => readWordZP s b1

/-- `EA`, the effective address (R113-R118, R120, R121): zero-page sums modulo 256, the others modulo 65536. -/
def effectiveAddress (mode : AddrMode) (s : State) : Word :=
  match mode with
  | .zp _ => baseAddress mode s
  | .zpX _ => baseAddress mode s
  | .zpY _ => baseAddress mode s
  | .abs _ => baseAddress mode s
  | .absX _ => baseAddress mode s + zext16 s.x
  | .absY _ => baseAddress mode s + zext16 s.y
  | .indX _ => baseAddress mode s
  | .indY _ => baseAddress mode s + zext16 s.y

/-- `cross` of R117, R118, R121: the index moved the address to another page. Used by the informative cycle count only. -/
def pageCrossed (mode : AddrMode) (s : State) : Bool :=
  highByte (baseAddress mode s) != highByte (effectiveAddress mode s)

/-- The length of an instruction with this operand: 1 + Bytes(mode) (R102). -/
def addrLength (mode : AddrMode) : Word :=
  match mode with
  | .zp _ => 2#16
  | .zpX _ => 2#16
  | .zpY _ => 2#16
  | .abs _ => 3#16
  | .absX _ => 3#16
  | .absY _ => 3#16
  | .indX _ => 2#16
  | .indY _ => 2#16

/-- Where the value `M` of a reading instruction comes from (R105). -/
inductive Source where
  | imm (value : Byte)
  | mem (mode : AddrMode)
  deriving DecidableEq, Repr

/-- `M`: the operand byte itself (R112), or the byte at EA (R105). -/
def operandValue (src : Source) (s : State) : Byte :=
  match src with
  | .imm value => value
  | .mem mode => memRead s (effectiveAddress mode s)

/-- The length of an instruction with this operand (R102). -/
def sourceLength (src : Source) : Word :=
  match src with
  | .imm _ => 2#16
  | .mem mode => addrLength mode

/-- What a shift or rotate works on: A (R111), or the byte at EA, read once and written once (R105, decision D14). -/
inductive Place where
  | acc
  | mem (mode : AddrMode)
  deriving DecidableEq, Repr

/-- The value at a place (R105, R111). -/
def placeValue (place : Place) (s : State) : Byte :=
  match place with
  | .acc => s.a
  | .mem mode => memRead s (effectiveAddress mode s)

/-- Write a result where its operand was read (R105, R111). -/
def placeWrite (place : Place) (v : Byte) (s : State) : State :=
  match place with
  | .acc => { s with a := v }
  | .mem mode => memWrite s (effectiveAddress mode s) v

/-- The length of an instruction that works on this place (R102). -/
def placeLength (place : Place) : Word :=
  match place with
  | .acc => 1#16
  | .mem mode => addrLength mode

/-- Where JMP (ind) reads the high byte of its target: `ptr + 1` modulo 65536, or the same page when JMP_IND_PAGE_WRAP is
true (R119, decision D12). -/
def indirectHighAddress (ptr : Word) (s : State) : Word :=
  if s.cfg.jmpIndPageWrap then wordOf (highByte ptr) (lowByte ptr + 1#8) else ptr + 1#16

/-- `EA` of the Indirect mode: the word read through the pointer (R119). -/
def indirectTarget (ptr : Word) (s : State) : Word :=
  wordOf (memRead s (indirectHighAddress ptr s)) (memRead s ptr)

/-- `T` of the Relative mode: `(PC + 2) + sext_16(d)` modulo 65536 (R122). -/
def relativeTarget (disp : Byte) (s : State) : Word := s.pc + 2#16 + sext16 disp

/-- What the resolver answers (R104). -/
inductive Resolution where
  | none
  | acc
  | imm (m : Byte)
  | addr (ea : Word) (cross : Bool)
  | target (t : Word) (cross : Bool)
  deriving DecidableEq, Repr

/-- An operand in memory, resolved. -/
def resolveAddr (mode : AddrMode) (s : State) : Resolution := .addr (effectiveAddress mode s) (pageCrossed mode s)

/-- `Resolve(mode)` (R104): a mode tag, the two bytes after the opcode (a mode looks at as many as it has, R102), and the
state, PC at the opcode. -/
def resolve (mode : Mode) (b1 b2 : Byte) (s : State) : Resolution :=
  match mode with
  | .implied => .none
  | .accumulator => .acc
  | .immediate => .imm b1
  | .zeroPage => resolveAddr (.zp b1) s
  | .zeroPageX => resolveAddr (.zpX b1) s
  | .zeroPageY => resolveAddr (.zpY b1) s
  | .absolute => resolveAddr (.abs (wordOf b2 b1)) s
  | .absoluteX => resolveAddr (.absX (wordOf b2 b1)) s
  | .absoluteY => resolveAddr (.absY (wordOf b2 b1)) s
  | .indirect => .addr (indirectTarget (wordOf b2 b1) s) false
  | .indexedIndirectX => resolveAddr (.indX b1) s
  | .indirectIndexedY => resolveAddr (.indY b1) s
  | .relative => .target (relativeTarget b1 s) (highByte (s.pc + 2#16) != highByte (relativeTarget b1 s))

end Sys2Proof.Machine
end

