-- ==== Sys2Proof/Machine/Template.lean ====
section
/-! DEFINITION. The shapes every instruction rule is written in (spec/00_scope.md R13, spec/40_load_store.md R200): an
effect on registers and flags, then the PC past the instruction (R26, R141). -/

namespace Sys2Proof.Machine

/-- An instruction that reads `M` (R105): its effect, then `PC <- NextPC`. -/
def onSource (effect : Byte → State → State) (src : Source) (s : State) : State :=
  advance (sourceLength src) (effect (operandValue src s) s)

/-- A store (R105: EA is not read; R204-R206: no flag): the register's value to EA, then `PC <- NextPC`. -/
def storeAt (value : Byte) (mode : AddrMode) (s : State) : State :=
  advance (addrLength mode) (memWrite s (effectiveAddress mode s) value)

/-- A read-modify-write of A or of the byte at EA (R105, R330, decision D14): `op` takes the old value and the old carry to
the result and the new carry; then SetZN of the result and `PC <- NextPC`. -/
def modifyPlace (op : Byte → Bool → Byte × Bool) (place : Place) (s : State) : State :=
  let r := op (placeValue place s) s.c
  advance (placeLength place) (setZN r.1 (placeWrite place r.1 { s with c := r.2 }))

/-- An implied instruction (R110, format F1): its effect, then `PC <- NextPC`. -/
def implied (effect : State → State) (s : State) : State := advance 1#16 (effect s)

/-- `A <- v; SetZN(A)`. -/
def loadA (v : Byte) (s : State) : State := setZN v { s with a := v }

/-- `X <- v; SetZN(X)`. -/
def loadX (v : Byte) (s : State) : State := setZN v { s with x := v }

/-- `Y <- v; SetZN(Y)`. -/
def loadY (v : Byte) (s : State) : State := setZN v { s with y := v }

end Sys2Proof.Machine
end

