-- ==== Sys2Proof/Machine/Arithmetic.lean ====
section
/-! DEFINITION. Arithmetic, compare, increment and decrement (spec/42_arithmetic.md R280-R295). -/

namespace Sys2Proof.Machine

/-- Whether ADC and SBC use their decimal rules: D = 1 and `DECIMAL_MODE = nmos` (R284, R285, decision D13). -/
def decimalActive (s : State) : Bool := s.d && decide (s.cfg.decimalMode = .nmos)

/-- ADC's effect (R284). In decimal mode Z and N are AdcDecimal's own, not the result byte's. -/
def addToA (m : Byte) (s : State) : State :=
  if decimalActive s then
    let r := adcDecimal s.a m s.c
    { s with a := r.result, c := r.carry, n := r.negative, v := r.overflow, z := r.zero }
  else
    let r := addBinary s.a m s.c
    loadA r.result { s with c := r.carry, v := r.overflow }

/-- SBC's effect (R285): C, V, Z and N from the binary `A + ~M + C` whatever D is; A binary or SbcDecimal. -/
def subtractFromA (m : Byte) (s : State) : State :=
  let rb := addBinary s.a (~~~m) s.c
  let result : Byte := if decimalActive s then sbcDecimal s.a m s.c else rb.result
  setZN rb.result { s with a := result, c := rb.carry, v := rb.overflow }

/-- INC and DEC (R290, R291): C and V are unchanged. -/
def modifyMemory (op : Byte → Byte) (mode : AddrMode) (s : State) : State :=
  modifyPlace (fun m c => (op m, c)) (.mem mode) s

/-- ADC #nn, opcode 0x69 (R284). -/
def execAdcImm (b1 : Byte) (s : State) : Result := .next (onSource addToA (.imm b1) s)

/-- ADC nn, opcode 0x65 (R284). -/
def execAdcZp (b1 : Byte) (s : State) : Result := .next (onSource addToA (.mem (.zp b1)) s)

/-- ADC nn,X, opcode 0x75 (R284). -/
def execAdcZpX (b1 : Byte) (s : State) : Result := .next (onSource addToA (.mem (.zpX b1)) s)

/-- ADC nnnn, opcode 0x6D (R284). -/
def execAdcAbs (addr : Word) (s : State) : Result := .next (onSource addToA (.mem (.abs addr)) s)

/-- ADC nnnn,X, opcode 0x7D (R284). -/
def execAdcAbsX (addr : Word) (s : State) : Result := .next (onSource addToA (.mem (.absX addr)) s)

/-- ADC nnnn,Y, opcode 0x79 (R284). -/
def execAdcAbsY (addr : Word) (s : State) : Result := .next (onSource addToA (.mem (.absY addr)) s)

/-- ADC (nn,X), opcode 0x61 (R284). -/
def execAdcIndX (b1 : Byte) (s : State) : Result := .next (onSource addToA (.mem (.indX b1)) s)

/-- ADC (nn),Y, opcode 0x71 (R284). -/
def execAdcIndY (b1 : Byte) (s : State) : Result := .next (onSource addToA (.mem (.indY b1)) s)

/-- SBC #nn, opcode 0xE9 (R285). -/
def execSbcImm (b1 : Byte) (s : State) : Result := .next (onSource subtractFromA (.imm b1) s)

/-- SBC nn, opcode 0xE5 (R285). -/
def execSbcZp (b1 : Byte) (s : State) : Result := .next (onSource subtractFromA (.mem (.zp b1)) s)

/-- SBC nn,X, opcode 0xF5 (R285). -/
def execSbcZpX (b1 : Byte) (s : State) : Result := .next (onSource subtractFromA (.mem (.zpX b1)) s)

/-- SBC nnnn, opcode 0xED (R285). -/
def execSbcAbs (addr : Word) (s : State) : Result := .next (onSource subtractFromA (.mem (.abs addr)) s)

/-- SBC nnnn,X, opcode 0xFD (R285). -/
def execSbcAbsX (addr : Word) (s : State) : Result := .next (onSource subtractFromA (.mem (.absX addr)) s)

/-- SBC nnnn,Y, opcode 0xF9 (R285). -/
def execSbcAbsY (addr : Word) (s : State) : Result := .next (onSource subtractFromA (.mem (.absY addr)) s)

/-- SBC (nn,X), opcode 0xE1 (R285). -/
def execSbcIndX (b1 : Byte) (s : State) : Result := .next (onSource subtractFromA (.mem (.indX b1)) s)

/-- SBC (nn),Y, opcode 0xF1 (R285). -/
def execSbcIndY (b1 : Byte) (s : State) : Result := .next (onSource subtractFromA (.mem (.indY b1)) s)

/-- CMP #nn, opcode 0xC9 (R287). -/
def execCmpImm (b1 : Byte) (s : State) : Result := .next (onSource (compareWith s.a) (.imm b1) s)

/-- CMP nn, opcode 0xC5 (R287). -/
def execCmpZp (b1 : Byte) (s : State) : Result := .next (onSource (compareWith s.a) (.mem (.zp b1)) s)

/-- CMP nn,X, opcode 0xD5 (R287). -/
def execCmpZpX (b1 : Byte) (s : State) : Result := .next (onSource (compareWith s.a) (.mem (.zpX b1)) s)

/-- CMP nnnn, opcode 0xCD (R287). -/
def execCmpAbs (addr : Word) (s : State) : Result := .next (onSource (compareWith s.a) (.mem (.abs addr)) s)

/-- CMP nnnn,X, opcode 0xDD (R287). -/
def execCmpAbsX (addr : Word) (s : State) : Result := .next (onSource (compareWith s.a) (.mem (.absX addr)) s)

/-- CMP nnnn,Y, opcode 0xD9 (R287). -/
def execCmpAbsY (addr : Word) (s : State) : Result := .next (onSource (compareWith s.a) (.mem (.absY addr)) s)

/-- CMP (nn,X), opcode 0xC1 (R287). -/
def execCmpIndX (b1 : Byte) (s : State) : Result := .next (onSource (compareWith s.a) (.mem (.indX b1)) s)

/-- CMP (nn),Y, opcode 0xD1 (R287). -/
def execCmpIndY (b1 : Byte) (s : State) : Result := .next (onSource (compareWith s.a) (.mem (.indY b1)) s)

/-- CPX #nn, opcode 0xE0 (R288). -/
def execCpxImm (b1 : Byte) (s : State) : Result := .next (onSource (compareWith s.x) (.imm b1) s)

/-- CPX nn, opcode 0xE4 (R288). -/
def execCpxZp (b1 : Byte) (s : State) : Result := .next (onSource (compareWith s.x) (.mem (.zp b1)) s)

/-- CPX nnnn, opcode 0xEC (R288). -/
def execCpxAbs (addr : Word) (s : State) : Result := .next (onSource (compareWith s.x) (.mem (.abs addr)) s)

/-- CPY #nn, opcode 0xC0 (R289). -/
def execCpyImm (b1 : Byte) (s : State) : Result := .next (onSource (compareWith s.y) (.imm b1) s)

/-- CPY nn, opcode 0xC4 (R289). -/
def execCpyZp (b1 : Byte) (s : State) : Result := .next (onSource (compareWith s.y) (.mem (.zp b1)) s)

/-- CPY nnnn, opcode 0xCC (R289). -/
def execCpyAbs (addr : Word) (s : State) : Result := .next (onSource (compareWith s.y) (.mem (.abs addr)) s)

/-- INC nn, opcode 0xE6 (R290). -/
def execIncZp (b1 : Byte) (s : State) : Result := .next (modifyMemory (· + 1#8) (.zp b1) s)

/-- INC nn,X, opcode 0xF6 (R290). -/
def execIncZpX (b1 : Byte) (s : State) : Result := .next (modifyMemory (· + 1#8) (.zpX b1) s)

/-- INC nnnn, opcode 0xEE (R290). -/
def execIncAbs (addr : Word) (s : State) : Result := .next (modifyMemory (· + 1#8) (.abs addr) s)

/-- INC nnnn,X, opcode 0xFE (R290). -/
def execIncAbsX (addr : Word) (s : State) : Result := .next (modifyMemory (· + 1#8) (.absX addr) s)

/-- DEC nn, opcode 0xC6 (R291). -/
def execDecZp (b1 : Byte) (s : State) : Result := .next (modifyMemory (· - 1#8) (.zp b1) s)

/-- DEC nn,X, opcode 0xD6 (R291). -/
def execDecZpX (b1 : Byte) (s : State) : Result := .next (modifyMemory (· - 1#8) (.zpX b1) s)

/-- DEC nnnn, opcode 0xCE (R291). -/
def execDecAbs (addr : Word) (s : State) : Result := .next (modifyMemory (· - 1#8) (.abs addr) s)

/-- DEC nnnn,X, opcode 0xDE (R291). -/
def execDecAbsX (addr : Word) (s : State) : Result := .next (modifyMemory (· - 1#8) (.absX addr) s)

/-- INX, opcode 0xE8 (R292). -/
def execInx (s : State) : Result := .next (implied (loadX (s.x + 1#8)) s)

/-- INY, opcode 0xC8 (R293). -/
def execIny (s : State) : Result := .next (implied (loadY (s.y + 1#8)) s)

/-- DEX, opcode 0xCA (R294). -/
def execDex (s : State) : Result := .next (implied (loadX (s.x - 1#8)) s)

/-- DEY, opcode 0x88 (R295). -/
def execDey (s : State) : Result := .next (implied (loadY (s.y - 1#8)) s)

end Sys2Proof.Machine
end

