-- ==== Sys2Proof/Machine/Control.lean ====
section
/-! DEFINITION. Jumps, subroutine calls, returns and branches (spec/44_control.md R380-R393). -/

namespace Sys2Proof.Machine

/-- The condition of BCC: carry clear (R386). -/
def condBcc (s : State) : Bool := !s.c

/-- The condition of BCS: carry set (R387). -/
def condBcs (s : State) : Bool := s.c

/-- The condition of BEQ: zero set (R388). -/
def condBeq (s : State) : Bool := s.z

/-- The condition of BNE: zero clear (R389). -/
def condBne (s : State) : Bool := !s.z

/-- The condition of BMI: negative set (R390). -/
def condBmi (s : State) : Bool := s.n

/-- The condition of BPL: negative clear (R391). -/
def condBpl (s : State) : Bool := !s.n

/-- The condition of BVC: overflow clear (R392). -/
def condBvc (s : State) : Bool := !s.v

/-- The condition of BVS: overflow set (R393). -/
def condBvs (s : State) : Bool := s.v

/-- A conditional branch (R385): the target of R122 when the condition holds, else `PC <- NextPC` (length 2). -/
def branch (cond : Bool) (disp : Byte) (s : State) : State :=
  jumpTo (if cond then relativeTarget disp s else s.pc + 2#16) s

/-- JSR's effect (R382, decision D15): push the address of its own last byte, then jump. -/
def callSubroutine (target : Word) (s : State) : State := jumpTo target (pushWord (s.pc + 2#16) s)

/-- RTS's effect (R383): the popped word + 1 modulo 65536. -/
def returnFromSubroutine (s : State) : State :=
  let r := popWord s
  jumpTo (r.1 + 1#16) r.2

/-- JMP nnnn, opcode 0x4C (R381). -/
def execJmpAbs (addr : Word) (s : State) : Result := .next (jumpTo addr s)

/-- JMP (nnnn), opcode 0x6C (R381). -/
def execJmpInd (ptr : Word) (s : State) : Result := .next (jumpTo (indirectTarget ptr s) s)

/-- JSR nnnn, opcode 0x20 (R382). -/
def execJsr (addr : Word) (s : State) : Result := .next (callSubroutine addr s)

/-- RTS, opcode 0x60 (R383). -/
def execRts (s : State) : Result := .next (returnFromSubroutine s)

/-- RTI, opcode 0x40 (R384). -/
def execRti (s : State) : Result := .next (returnFromInterrupt s)

/-- BCC target, opcode 0x90 (R386). -/
def execBcc (disp : Byte) (s : State) : Result := .next (branch (condBcc s) disp s)

/-- BCS target, opcode 0xB0 (R387). -/
def execBcs (disp : Byte) (s : State) : Result := .next (branch (condBcs s) disp s)

/-- BEQ target, opcode 0xF0 (R388). -/
def execBeq (disp : Byte) (s : State) : Result := .next (branch (condBeq s) disp s)

/-- BNE target, opcode 0xD0 (R389). -/
def execBne (disp : Byte) (s : State) : Result := .next (branch (condBne s) disp s)

/-- BMI target, opcode 0x30 (R390). -/
def execBmi (disp : Byte) (s : State) : Result := .next (branch (condBmi s) disp s)

/-- BPL target, opcode 0x10 (R391). -/
def execBpl (disp : Byte) (s : State) : Result := .next (branch (condBpl s) disp s)

/-- BVC target, opcode 0x50 (R392). -/
def execBvc (disp : Byte) (s : State) : Result := .next (branch (condBvc s) disp s)

/-- BVS target, opcode 0x70 (R393). -/
def execBvs (disp : Byte) (s : State) : Result := .next (branch (condBvs s) disp s)

end Sys2Proof.Machine
end

