-- ==== Sys2Proof/Machine/FlagSystem.lean ====
section
/-! DEFINITION. Flag instructions, NOP and BRK (spec/45_flags_system.md R420-R429). -/

namespace Sys2Proof.Machine

/-- BRK's effect (R429): the shared entry with return address PC + 2 (decision D7) and the IRQ/BRK vector, and B becomes 1
after the status was pushed (decision D3). -/
def softwareInterrupt (s : State) : State := { interruptEntry (s.pc + 2#16) irqVector s with b := true }

/-- CLC, opcode 0x18 (R421). -/
def execClc (s : State) : Result := .next (implied (fun t => { t with c := false }) s)

/-- CLD, opcode 0xD8 (R422). -/
def execCld (s : State) : Result := .next (implied (fun t => { t with d := false }) s)

/-- CLI, opcode 0x58 (R423). -/
def execCli (s : State) : Result := .next (implied (fun t => { t with i := false }) s)

/-- CLV, opcode 0xB8 (R424). -/
def execClv (s : State) : Result := .next (implied (fun t => { t with v := false }) s)

/-- SEC, opcode 0x38 (R425). -/
def execSec (s : State) : Result := .next (implied (fun t => { t with c := true }) s)

/-- SED, opcode 0xF8 (R426). -/
def execSed (s : State) : Result := .next (implied (fun t => { t with d := true }) s)

/-- SEI, opcode 0x78 (R427). -/
def execSei (s : State) : Result := .next (implied (fun t => { t with i := true }) s)

/-- NOP, opcode 0xEA (R428). -/
def execNop (s : State) : Result := .next (implied id s)

/-- BRK, opcode 0x00 (R429). -/
def execBrk (s : State) : Result := .next (softwareInterrupt s)

end Sys2Proof.Machine
end

