-- ==== Sys2Proof/Machine/LoadStore.lean ====
section
/-! DEFINITION. Loads and stores (spec/40_load_store.md R200-R206). -/

namespace Sys2Proof.Machine

/-- LDA #nn, opcode 0xA9 (R201). -/
def execLdaImm (b1 : Byte) (s : State) : Result := .next (onSource loadA (.imm b1) s)

/-- LDA nn, opcode 0xA5 (R201). -/
def execLdaZp (b1 : Byte) (s : State) : Result := .next (onSource loadA (.mem (.zp b1)) s)

/-- LDA nn,X, opcode 0xB5 (R201). -/
def execLdaZpX (b1 : Byte) (s : State) : Result := .next (onSource loadA (.mem (.zpX b1)) s)

/-- LDA nnnn, opcode 0xAD (R201). -/
def execLdaAbs (addr : Word) (s : State) : Result := .next (onSource loadA (.mem (.abs addr)) s)

/-- LDA nnnn,X, opcode 0xBD (R201). -/
def execLdaAbsX (addr : Word) (s : State) : Result := .next (onSource loadA (.mem (.absX addr)) s)

/-- LDA nnnn,Y, opcode 0xB9 (R201). -/
def execLdaAbsY (addr : Word) (s : State) : Result := .next (onSource loadA (.mem (.absY addr)) s)

/-- LDA (nn,X), opcode 0xA1 (R201). -/
def execLdaIndX (b1 : Byte) (s : State) : Result := .next (onSource loadA (.mem (.indX b1)) s)

/-- LDA (nn),Y, opcode 0xB1 (R201). -/
def execLdaIndY (b1 : Byte) (s : State) : Result := .next (onSource loadA (.mem (.indY b1)) s)

/-- LDX #nn, opcode 0xA2 (R202). -/
def execLdxImm (b1 : Byte) (s : State) : Result := .next (onSource loadX (.imm b1) s)

/-- LDX nn, opcode 0xA6 (R202). -/
def execLdxZp (b1 : Byte) (s : State) : Result := .next (onSource loadX (.mem (.zp b1)) s)

/-- LDX nn,Y, opcode 0xB6 (R202). -/
def execLdxZpY (b1 : Byte) (s : State) : Result := .next (onSource loadX (.mem (.zpY b1)) s)

/-- LDX nnnn, opcode 0xAE (R202). -/
def execLdxAbs (addr : Word) (s : State) : Result := .next (onSource loadX (.mem (.abs addr)) s)

/-- LDX nnnn,Y, opcode 0xBE (R202). -/
def execLdxAbsY (addr : Word) (s : State) : Result := .next (onSource loadX (.mem (.absY addr)) s)

/-- LDY #nn, opcode 0xA0 (R203). -/
def execLdyImm (b1 : Byte) (s : State) : Result := .next (onSource loadY (.imm b1) s)

/-- LDY nn, opcode 0xA4 (R203). -/
def execLdyZp (b1 : Byte) (s : State) : Result := .next (onSource loadY (.mem (.zp b1)) s)

/-- LDY nn,X, opcode 0xB4 (R203). -/
def execLdyZpX (b1 : Byte) (s : State) : Result := .next (onSource loadY (.mem (.zpX b1)) s)

/-- LDY nnnn, opcode 0xAC (R203). -/
def execLdyAbs (addr : Word) (s : State) : Result := .next (onSource loadY (.mem (.abs addr)) s)

/-- LDY nnnn,X, opcode 0xBC (R203). -/
def execLdyAbsX (addr : Word) (s : State) : Result := .next (onSource loadY (.mem (.absX addr)) s)

/-- STA nn, opcode 0x85 (R204). -/
def execStaZp (b1 : Byte) (s : State) : Result := .next (storeAt s.a (.zp b1) s)

/-- STA nn,X, opcode 0x95 (R204). -/
def execStaZpX (b1 : Byte) (s : State) : Result := .next (storeAt s.a (.zpX b1) s)

/-- STA nnnn, opcode 0x8D (R204). -/
def execStaAbs (addr : Word) (s : State) : Result := .next (storeAt s.a (.abs addr) s)

/-- STA nnnn,X, opcode 0x9D (R204). -/
def execStaAbsX (addr : Word) (s : State) : Result := .next (storeAt s.a (.absX addr) s)

/-- STA nnnn,Y, opcode 0x99 (R204). -/
def execStaAbsY (addr : Word) (s : State) : Result := .next (storeAt s.a (.absY addr) s)

/-- STA (nn,X), opcode 0x81 (R204). -/
def execStaIndX (b1 : Byte) (s : State) : Result := .next (storeAt s.a (.indX b1) s)

/-- STA (nn),Y, opcode 0x91 (R204). -/
def execStaIndY (b1 : Byte) (s : State) : Result := .next (storeAt s.a (.indY b1) s)

/-- STX nn, opcode 0x86 (R205). -/
def execStxZp (b1 : Byte) (s : State) : Result := .next (storeAt s.x (.zp b1) s)

/-- STX nn,Y, opcode 0x96 (R205). -/
def execStxZpY (b1 : Byte) (s : State) : Result := .next (storeAt s.x (.zpY b1) s)

/-- STX nnnn, opcode 0x8E (R205). -/
def execStxAbs (addr : Word) (s : State) : Result := .next (storeAt s.x (.abs addr) s)

/-- STY nn, opcode 0x84 (R206). -/
def execStyZp (b1 : Byte) (s : State) : Result := .next (storeAt s.y (.zp b1) s)

/-- STY nn,X, opcode 0x94 (R206). -/
def execStyZpX (b1 : Byte) (s : State) : Result := .next (storeAt s.y (.zpX b1) s)

/-- STY nnnn, opcode 0x8C (R206). -/
def execStyAbs (addr : Word) (s : State) : Result := .next (storeAt s.y (.abs addr) s)

end Sys2Proof.Machine
end

