-- ==== Sys2Proof/Machine/LogicShift.lean ====
section
/-! DEFINITION. Logic, bit test, shifts and rotates (spec/43_logic_shift.md R330-R338). -/

namespace Sys2Proof.Machine

/-- BIT's effect (R334): Z from `A & M`, N and V copied from bits 7 and 6 of M. -/
def bitTest (m : Byte) (s : State) : State := { s with z := s.a &&& m == 0#8, n := bitAt m 7, v := bitAt m 6 }

/-- ASL on a value and the old carry (R335): the result, and the carry from old bit 7. -/
def shiftLeft (m : Byte) (_c : Bool) : Byte × Bool := (m <<< 1, bitAt m 7)

/-- LSR (R336): the result, and the carry from old bit 0. -/
def shiftRight (m : Byte) (_c : Bool) : Byte × Bool := (m >>> 1, bitAt m 0)

/-- ROL (R337): the old carry enters bit 0, the carry is old bit 7. -/
def rotateLeft (m : Byte) (c : Bool) : Byte × Bool := ((m <<< 1) ||| flagByte c, bitAt m 7)

/-- ROR (R338): the old carry enters bit 7, the carry is old bit 0. -/
def rotateRight (m : Byte) (c : Bool) : Byte × Bool := ((flagByte c <<< 7) ||| (m >>> 1), bitAt m 0)

/-- AND #nn, opcode 0x29 (R331). -/
def execAndImm (b1 : Byte) (s : State) : Result := .next (onSource (fun m => loadA (s.a &&& m)) (.imm b1) s)

/-- AND nn, opcode 0x25 (R331). -/
def execAndZp (b1 : Byte) (s : State) : Result := .next (onSource (fun m => loadA (s.a &&& m)) (.mem (.zp b1)) s)

/-- AND nn,X, opcode 0x35 (R331). -/
def execAndZpX (b1 : Byte) (s : State) : Result := .next (onSource (fun m => loadA (s.a &&& m)) (.mem (.zpX b1)) s)

/-- AND nnnn, opcode 0x2D (R331). -/
def execAndAbs (addr : Word) (s : State) : Result := .next (onSource (fun m => loadA (s.a &&& m)) (.mem (.abs addr)) s)

/-- AND nnnn,X, opcode 0x3D (R331). -/
def execAndAbsX (addr : Word) (s : State) : Result := .next (onSource (fun m => loadA (s.a &&& m)) (.mem (.absX addr)) s)

/-- AND nnnn,Y, opcode 0x39 (R331). -/
def execAndAbsY (addr : Word) (s : State) : Result := .next (onSource (fun m => loadA (s.a &&& m)) (.mem (.absY addr)) s)

/-- AND (nn,X), opcode 0x21 (R331). -/
def execAndIndX (b1 : Byte) (s : State) : Result := .next (onSource (fun m => loadA (s.a &&& m)) (.mem (.indX b1)) s)

/-- AND (nn),Y, opcode 0x31 (R331). -/
def execAndIndY (b1 : Byte) (s : State) : Result := .next (onSource (fun m => loadA (s.a &&& m)) (.mem (.indY b1)) s)

/-- ORA #nn, opcode 0x09 (R332). -/
def execOraImm (b1 : Byte) (s : State) : Result := .next (onSource (fun m => loadA (s.a ||| m)) (.imm b1) s)

/-- ORA nn, opcode 0x05 (R332). -/
def execOraZp (b1 : Byte) (s : State) : Result := .next (onSource (fun m => loadA (s.a ||| m)) (.mem (.zp b1)) s)

/-- ORA nn,X, opcode 0x15 (R332). -/
def execOraZpX (b1 : Byte) (s : State) : Result := .next (onSource (fun m => loadA (s.a ||| m)) (.mem (.zpX b1)) s)

/-- ORA nnnn, opcode 0x0D (R332). -/
def execOraAbs (addr : Word) (s : State) : Result := .next (onSource (fun m => loadA (s.a ||| m)) (.mem (.abs addr)) s)

/-- ORA nnnn,X, opcode 0x1D (R332). -/
def execOraAbsX (addr : Word) (s : State) : Result := .next (onSource (fun m => loadA (s.a ||| m)) (.mem (.absX addr)) s)

/-- ORA nnnn,Y, opcode 0x19 (R332). -/
def execOraAbsY (addr : Word) (s : State) : Result := .next (onSource (fun m => loadA (s.a ||| m)) (.mem (.absY addr)) s)

/-- ORA (nn,X), opcode 0x01 (R332). -/
def execOraIndX (b1 : Byte) (s : State) : Result := .next (onSource (fun m => loadA (s.a ||| m)) (.mem (.indX b1)) s)

/-- ORA (nn),Y, opcode 0x11 (R332). -/
def execOraIndY (b1 : Byte) (s : State) : Result := .next (onSource (fun m => loadA (s.a ||| m)) (.mem (.indY b1)) s)

/-- EOR #nn, opcode 0x49 (R333). -/
def execEorImm (b1 : Byte) (s : State) : Result := .next (onSource (fun m => loadA (s.a ^^^ m)) (.imm b1) s)

/-- EOR nn, opcode 0x45 (R333). -/
def execEorZp (b1 : Byte) (s : State) : Result := .next (onSource (fun m => loadA (s.a ^^^ m)) (.mem (.zp b1)) s)

/-- EOR nn,X, opcode 0x55 (R333). -/
def execEorZpX (b1 : Byte) (s : State) : Result := .next (onSource (fun m => loadA (s.a ^^^ m)) (.mem (.zpX b1)) s)

/-- EOR nnnn, opcode 0x4D (R333). -/
def execEorAbs (addr : Word) (s : State) : Result := .next (onSource (fun m => loadA (s.a ^^^ m)) (.mem (.abs addr)) s)

/-- EOR nnnn,X, opcode 0x5D (R333). -/
def execEorAbsX (addr : Word) (s : State) : Result := .next (onSource (fun m => loadA (s.a ^^^ m)) (.mem (.absX addr)) s)

/-- EOR nnnn,Y, opcode 0x59 (R333). -/
def execEorAbsY (addr : Word) (s : State) : Result := .next (onSource (fun m => loadA (s.a ^^^ m)) (.mem (.absY addr)) s)

/-- EOR (nn,X), opcode 0x41 (R333). -/
def execEorIndX (b1 : Byte) (s : State) : Result := .next (onSource (fun m => loadA (s.a ^^^ m)) (.mem (.indX b1)) s)

/-- EOR (nn),Y, opcode 0x51 (R333). -/
def execEorIndY (b1 : Byte) (s : State) : Result := .next (onSource (fun m => loadA (s.a ^^^ m)) (.mem (.indY b1)) s)

/-- BIT nn, opcode 0x24 (R334). -/
def execBitZp (b1 : Byte) (s : State) : Result := .next (onSource bitTest (.mem (.zp b1)) s)

/-- BIT nnnn, opcode 0x2C (R334). -/
def execBitAbs (addr : Word) (s : State) : Result := .next (onSource bitTest (.mem (.abs addr)) s)

/-- ASL A, opcode 0x0A (R335). -/
def execAslAcc (s : State) : Result := .next (modifyPlace shiftLeft .acc s)

/-- ASL nn, opcode 0x06 (R335). -/
def execAslZp (b1 : Byte) (s : State) : Result := .next (modifyPlace shiftLeft (.mem (.zp b1)) s)

/-- ASL nn,X, opcode 0x16 (R335). -/
def execAslZpX (b1 : Byte) (s : State) : Result := .next (modifyPlace shiftLeft (.mem (.zpX b1)) s)

/-- ASL nnnn, opcode 0x0E (R335). -/
def execAslAbs (addr : Word) (s : State) : Result := .next (modifyPlace shiftLeft (.mem (.abs addr)) s)

/-- ASL nnnn,X, opcode 0x1E (R335). -/
def execAslAbsX (addr : Word) (s : State) : Result := .next (modifyPlace shiftLeft (.mem (.absX addr)) s)

/-- LSR A, opcode 0x4A (R336). -/
def execLsrAcc (s : State) : Result := .next (modifyPlace shiftRight .acc s)

/-- LSR nn, opcode 0x46 (R336). -/
def execLsrZp (b1 : Byte) (s : State) : Result := .next (modifyPlace shiftRight (.mem (.zp b1)) s)

/-- LSR nn,X, opcode 0x56 (R336). -/
def execLsrZpX (b1 : Byte) (s : State) : Result := .next (modifyPlace shiftRight (.mem (.zpX b1)) s)

/-- LSR nnnn, opcode 0x4E (R336). -/
def execLsrAbs (addr : Word) (s : State) : Result := .next (modifyPlace shiftRight (.mem (.abs addr)) s)

/-- LSR nnnn,X, opcode 0x5E (R336). -/
def execLsrAbsX (addr : Word) (s : State) : Result := .next (modifyPlace shiftRight (.mem (.absX addr)) s)

/-- ROL A, opcode 0x2A (R337). -/
def execRolAcc (s : State) : Result := .next (modifyPlace rotateLeft .acc s)

/-- ROL nn, opcode 0x26 (R337). -/
def execRolZp (b1 : Byte) (s : State) : Result := .next (modifyPlace rotateLeft (.mem (.zp b1)) s)

/-- ROL nn,X, opcode 0x36 (R337). -/
def execRolZpX (b1 : Byte) (s : State) : Result := .next (modifyPlace rotateLeft (.mem (.zpX b1)) s)

/-- ROL nnnn, opcode 0x2E (R337). -/
def execRolAbs (addr : Word) (s : State) : Result := .next (modifyPlace rotateLeft (.mem (.abs addr)) s)

/-- ROL nnnn,X, opcode 0x3E (R337). -/
def execRolAbsX (addr : Word) (s : State) : Result := .next (modifyPlace rotateLeft (.mem (.absX addr)) s)

/-- ROR A, opcode 0x6A (R338). -/
def execRorAcc (s : State) : Result := .next (modifyPlace rotateRight .acc s)

/-- ROR nn, opcode 0x66 (R338). -/
def execRorZp (b1 : Byte) (s : State) : Result := .next (modifyPlace rotateRight (.mem (.zp b1)) s)

/-- ROR nn,X, opcode 0x76 (R338). -/
def execRorZpX (b1 : Byte) (s : State) : Result := .next (modifyPlace rotateRight (.mem (.zpX b1)) s)

/-- ROR nnnn, opcode 0x6E (R338). -/
def execRorAbs (addr : Word) (s : State) : Result := .next (modifyPlace rotateRight (.mem (.abs addr)) s)

/-- ROR nnnn,X, opcode 0x7E (R338). -/
def execRorAbsX (addr : Word) (s : State) : Result := .next (modifyPlace rotateRight (.mem (.absX addr)) s)

end Sys2Proof.Machine
end

