-- ==== Sys2Proof/Machine/TransferStack.lean ====
section
/-! DEFINITION. Register transfers and stack instructions (spec/41_transfer_stack.md R240-R250). -/

namespace Sys2Proof.Machine

/-- `A <- PopByte(); SetZN(A)` (R249). -/
def pullA (s : State) : State :=
  let p := popByte s
  loadA p.1 p.2

/-- TAX, opcode 0xAA (R241). -/
def execTax (s : State) : Result := .next (implied (loadX s.a) s)

/-- TAY, opcode 0xA8 (R242). -/
def execTay (s : State) : Result := .next (implied (loadY s.a) s)

/-- TXA, opcode 0x8A (R243). -/
def execTxa (s : State) : Result := .next (implied (loadA s.x) s)

/-- TYA, opcode 0x98 (R244). -/
def execTya (s : State) : Result := .next (implied (loadA s.y) s)

/-- TSX, opcode 0xBA (R245). -/
def execTsx (s : State) : Result := .next (implied (loadX s.sp) s)

/-- TXS, opcode 0x9A (R246). -/
def execTxs (s : State) : Result := .next (implied (fun t => { t with sp := t.x }) s)

/-- PHA, opcode 0x48 (R247). -/
def execPha (s : State) : Result := .next (implied (pushByte s.a) s)

/-- PHP, opcode 0x08 (R248). -/
def execPhp (s : State) : Result := .next (implied pushFlags s)

/-- PLA, opcode 0x68 (R249). -/
def execPla (s : State) : Result := .next (implied pullA s)

/-- PLP, opcode 0x28 (R250). -/
def execPlp (s : State) : Result := .next (implied popFlags s)

end Sys2Proof.Machine
end

