-- ==== Sys2Proof/Machine/Fetch.lean ====
section
/-! DEFINITION. Instruction fetch (spec/00_scope.md R12, spec/30_encoding.md R100): through the same memory as data (R84). -/

namespace Sys2Proof.Machine

/-- `fetch(k)`: the k-th byte of the instruction at PC, `PC + k` modulo 65536 (R12). -/
def fetchByte (s : State) (k : Nat) : Byte := memRead s (s.pc + BitVec.ofNat 16 k)

/-- The instruction at PC; `none` for an illegal opcode. The decoder looks at `fetch(1)` and `fetch(2)` only as far as the
opcode's format has them; a read has no effect, so reading on past a short instruction cannot be observed (R63, DEDUCED,
log entry 9). -/
def fetchInstr (s : State) : Option Instr := decodeOpcode (fetchByte s 0) (fetchByte s 1) (fetchByte s 2)

/-- Write bytes at PC, PC + 1, ... as the host port would (R66). -/
def placeAtPc (s : State) : Nat → List Byte → State
  | _, [] => s
  | k, v :: rest => placeAtPc (memWrite s (s.pc + BitVec.ofNat 16 k) v) (k + 1) rest

end Sys2Proof.Machine
end

