-- ==== Sys2Proof/Machine/Step.lean ====
section
/-! DEFINITION. One step (spec/30_encoding.md R140): fetch, decode, execute; an illegal opcode is the one fault (R470). -/

namespace Sys2Proof.Machine

/-- `step()` (R140): exactly one instruction, or `IllegalOpcode(op)` with no state change (R470). It reads no pin. -/
def step (s : State) : Host.Outcome State Fault Refusal :=
  match fetchInstr s with
  | some i => exec i s
  | none => .fault (.illegalOpcode (fetchByte s 0))

/-- `s` with the instruction whose bits are `w` stored at PC, where `step` fetches next: three bytes, the longest
instruction's length, the bits above `nbits` zero. -/
def State.withFetchWord (s : State) (nbits w : Nat) : State := placeAtPc s 0 (tableBytes nbits w)

end Sys2Proof.Machine
end

