-- ==== Sys2Proof/Machine/Interrupts.lean ====
section
/-! DEFINITION. The interrupt controller's pins (spec/60_exceptions.md R460-R466, spec/70_reset_and_hazards.md R521). Each
is one atomic transaction between steps (R460); no step reads a pin (R140). -/

namespace Sys2Proof.Machine

/-- `RESET()` (R461, R521): SP, I, B and PC; everything else is unchanged (R522). -/
def resetPin (s : State) : State :=
  { s with sp := resetSp, i := true, b := false, pc := readWord s resetVector }

/-- `NMI()` (R462): serviced whatever I is; the pushed PC is the next instruction's address (R464, R466). -/
def nmiPin (s : State) : State := interruptEntry s.pc nmiVector s

/-- `IRQ()` (R463): serviced when I = 0; when I = 1 nothing changes and the call is lost (decision D10). -/
def irqPin (s : State) : State := if s.i then s else interruptEntry s.pc irqVector s

/-- A set of pins asserted together between two steps (R465). -/
structure PinSet where
  reset : Bool
  nmi : Bool
  irq : Bool
  deriving DecidableEq, Repr

/-- `PINS(S)` (R465): RESET > NMI > IRQ, exactly one serviced, the others dropped. R465 asks for a non-empty `S`; the empty
set is no transaction and changes nothing (DEDUCED, log entry 7). -/
def pins (set : PinSet) (s : State) : State :=
  if set.reset then resetPin s
  else if set.nmi then nmiPin s
  else if set.irq then irqPin s
  else s

end Sys2Proof.Machine
end

