-- ==== Sys2Proof/Machine/Cycles.lean ====
section
/-! DEFINITION. The informative cycle counts of spec/70_reset_and_hazards.md R531 and R532, and the step result that reports
them (spec/30_encoding.md R140, decision D24). No rule of the machine reads them back. -/

namespace Sys2Proof.Machine

/-- `Resolve` for an instruction: its mode and its own operand bytes (R104, R140). -/
def resolveInstr (i : Instr) (s : State) : Resolution :=
  resolve (modeOf i) ((encode i).getD 1 0#8) ((encode i).getD 2 0#8) s

/-- Whether an instruction is a branch whose condition holds (R386-R393). -/
def branchTaken (i : Instr) (s : State) : Bool :=
  match i with
  | .bcc _ => condBcc s
  | .bcs _ => condBcs s
  | .beq _ => condBeq s
  | .bne _ => condBne s
  | .bmi _ => condBmi s
  | .bpl _ => condBpl s
  | .bvc _ => condBvc s
  | .bvs _ => condBvs s
  | _ => false

/-- The resolver's `cross` (R104). -/
def crossOf (r : Resolution) : Bool :=
  match r with
  | .none => false
  | .acc => false
  | .imm _ => false
  | .addr _ cross => cross
  | .target _ cross => cross

/-- `Cycles(op, r)` (R531): `*` adds 1 on a crossing; `**` adds 1 when taken and 1 more when taken and crossing. -/
def cyclesFor (cost : CycleCost) (cross taken : Bool) : Nat :=
  match cost with
  | .fixed base => base
  | .crossing base => base + cross.toNat
  | .branch base => base + taken.toNat + (taken && cross).toNat

/-- The cycles an instruction takes from a state with PC at its opcode (R531). -/
def cycles (i : Instr) (s : State) : Nat := cyclesFor (costOf i) (crossOf (resolveInstr i s)) (branchTaken i s)

/-- `StepResult` (R140, decision D24). -/
inductive StepResult where
  | executed (cycles : Nat)
  | illegalOpcode (op : Byte)
  deriving DecidableEq, Repr

/-- What `step()` returns from this state (R140); the IllegalOpcode result carries no count (R532). -/
def stepResult (s : State) : StepResult :=
  match fetchInstr s with
  | some i => .executed (cycles i s)
  | none => .illegalOpcode (fetchByte s 0)

/-- The cycles a host that accounts time may add for a pin transaction (R532): 7 for a serviced pin, none for an IRQ that is a
no-op. -/
def pinCycles (set : PinSet) (s : State) : Nat :=
  if set.reset || set.nmi || (set.irq && !s.i) then 7 else 0

end Sys2Proof.Machine
end

