-- ==== Sys2Proof/Machine/Assembly.lean ====
section
/-! DEFINITION. The assembler text of spec/30_encoding.md R134 and the displacement an assembler encodes. No rule of the
machine reads it. -/

namespace Sys2Proof.Machine

/-- One hexadecimal digit, upper case. -/
def hexDigit (k : Nat) : Char := "0123456789ABCDEF".toList.getD k '0'

/-- `$nn` without the dollar. -/
def hexByte (v : Byte) : String := String.ofList [hexDigit (v.toNat / 16), hexDigit (v.toNat % 16)]

/-- `$nnnn` without the dollar. -/
def hexWord (w : Word) : String := hexByte (highByte w) ++ hexByte (lowByte w)

/-- The operand text of a mode, for an instruction at `address` whose operand bytes are `b1` and `b2` (R134); a relative
operand is written as its target. -/
def operandText (mode : Mode) (b1 b2 : Byte) (address : Word) : String :=
  match mode with
  | .implied => ""
  | .accumulator => " A"
  | .immediate => " #$" ++ hexByte b1
  | .zeroPage => " $" ++ hexByte b1
  | .zeroPageX => " $" ++ hexByte b1 ++ ",X"
  | .zeroPageY => " $" ++ hexByte b1 ++ ",Y"
  | .absolute => " $" ++ hexWord (wordOf b2 b1)
  | .absoluteX => " $" ++ hexWord (wordOf b2 b1) ++ ",X"
  | .absoluteY => " $" ++ hexWord (wordOf b2 b1) ++ ",Y"
  | .indirect => " ($" ++ hexWord (wordOf b2 b1) ++ ")"
  | .indexedIndirectX => " ($" ++ hexByte b1 ++ ",X)"
  | .indirectIndexedY => " ($" ++ hexByte b1 ++ "),Y"
  | .relative => " $" ++ hexWord (address + 2#16 + sext16 b1)

/-- The assembler text of an instruction at an address (R134). -/
def assemblyText (i : Instr) (address : Word) : String :=
  mnemonicOf i ++ operandText (modeOf i) ((encode i).getD 1 0#8) ((encode i).getD 2 0#8) address

/-- The displacement an assembler encodes for a branch at `address` to `target`: `target - (address + 2)`, which must lie in
-128..127 (R134). -/
def branchDisplacement (address target : Word) : Option Byte :=
  let d : Int := (target - (address + 2#16)).toInt
  if -128 ≤ d ∧ d ≤ 127 then some (BitVec.ofInt 8 d) else none

end Sys2Proof.Machine
end

