-- ==== Sys2Proof/Machine/HostPort.lean ====
section
/-! DEFINITION. The host's transactions (spec/10_state.md R41, R42; spec/20_memory.md R66): each one atomic, none overlapping
another. Overlapping transactions have no move (R42, U9). -/

namespace Sys2Proof.Machine

/-- `host_read(a)` (R66). -/
def hostRead (s : State) (addr : Word) : Byte := memRead s addr

/-- `host_write(a, v)` (R66): the same semantics as a core access (R63); no register has a host write port (R28). -/
def hostWrite (s : State) (addr : Word) (v : Byte) : State := memWrite s addr v

/-- The full-memory snapshot: all 65536 bytes, in address order (R41, R66). -/
def snapshot (s : State) : List Byte := (List.range 65536).map (fun k => memRead s (BitVec.ofNat 16 k))

/-- What the register inspection port shows (R41). -/
structure Registers where
  a : Byte
  x : Byte
  y : Byte
  sp : Byte
  pc : Word
  c : Bool
  z : Bool
  i : Bool
  d : Bool
  b : Bool
  v : Bool
  n : Bool
  deriving DecidableEq, Repr

/-- Register inspection (R41): read-only. -/
def inspect (s : State) : Registers :=
  { a := s.a, x := s.x, y := s.y, sp := s.sp, pc := s.pc,
    c := s.c, z := s.z, i := s.i, d := s.d, b := s.b, v := s.v, n := s.n }

/-- The transactions that can change the state (R41). -/
inductive Transaction where
  | step
  | reset
  | nmi
  | irq
  | pins (set : PinSet)
  | hostWrite (addr : Word) (value : Byte)
  deriving DecidableEq, Repr

/-- One transaction. Only a step can fault (R471). -/
def transact (t : Transaction) (s : State) : Result :=
  match t with
  | .step => step s
  | .reset => .next (resetPin s)
  | .nmi => .next (nmiPin s)
  | .irq => .next (irqPin s)
  | .pins set => .next (pins set s)
  | .hostWrite addr value => .next (hostWrite s addr value)

/-- The state the host finds after a transaction: a step that raised IllegalOpcode left the state as it was (R470). -/
def afterTransaction (t : Transaction) (s : State) : State :=
  match transact t s with
  | .next u => u
  | .fault _ => s
  | .refused _ => s

/-- The host's transactions in its order (R42, R81). -/
def afterTransactions : List Transaction → State → State
  | [], s => s
  | t :: rest, s => afterTransactions rest (afterTransaction t s)

/-- Boot (R525 steps 1 to 3): the host writes the program and the vectors, then calls RESET. -/
def boot (writes : List (Word × Byte)) (s : State) : State :=
  resetPin (afterTransactions (writes.map (fun w => .hostWrite w.1 w.2)) s)

end Sys2Proof.Machine
end

