-- ==== Sys2Proof/Safety.lean ====
section
/-! DEFINITION. What counts as a safe run, in the terms claims use: a step that completes, the end of a run
(spec/70_reset_and_hazards.md R530), and the invariant that memory keeps its canonical form. -/

namespace Sys2Proof.Safety

open Sys2Proof.Machine

/-- The state's memory is in canonical form. -/
abbrev Inv (s : State) : Prop := Memory.wf s.mem

/-- A step completes from here: it answers a next state. -/
def Completes (s : State) : Prop := ∃ t, step s = .next t

/-- How a bounded run stops (R530): the end, a fault (never an end), a refusal, or the host's bound. -/
inductive RunEnd where
  | ended (s : State)
  | faulted (f : Fault)
  | refused (r : Refusal)
  | boundReached (s : State)
  deriving DecidableEq, Repr

/-- Step until the first state that a completed step reaches with B = 1, at most `bound` steps (R530, decision D29). The core
itself never stops there (R143). -/
def runToEnd : Nat → State → RunEnd
  | 0, s => .boundReached s
  | bound + 1, s =>
    match step s with
    | .next t => if t.b then .ended t else runToEnd bound t
    | .fault f => .faulted f
    | .refused r => .refused r

/-- A run is safe for `bound` steps when no step of it faults or is refused before it ends. -/
def SafeRun (bound : Nat) (s : State) : Prop :=
  (∃ t, runToEnd bound s = .ended t) ∨ (∃ t, runToEnd bound s = .boundReached t)

end Sys2Proof.Safety
end

