-- ==== Sys2Proof/Certificates/Slice0/Obligations.lean ====
section
/-! DEFINITION. The statements for the provers, each from the numbered rules of spec/ that its docstring and
OBLIGATIONS.json name. None rests on a value the model chose at power-on. -/

namespace Sys2Proof.Claims

open Sys2Proof.Machine

/-- The instruction has these bytes (its opcode and operand bytes as its rule gives them), and executing it from `s` completes
in `t`. -/
def Runs (i : Instr) (bytes : List Byte) (s t : State) : Prop := encode i = bytes ∧ exec i s = .next t

/-- The status byte as a number: N V 1 B D I Z C weighted 128, 64, 32, 16, 8, 4, 2, 1 (R31). -/
def packStatus (s : State) : Byte :=
  BitVec.ofNat 8 (128 * s.n.toNat + 64 * s.v.toNat + 32 + 16 * s.b.toNat + 8 * s.d.toNat + 4 * s.i.toNat +
    2 * s.z.toNat + s.c.toNat)

/-- The k-th byte a pull from `s` reads: at 0x0100 + (SP + k modulo 256) (R71). -/
def pulled (s : State) (k : Nat) : Byte := memRead s (BitVec.ofNat 16 (0x0100 + (s.sp.toNat + k) % 256))

/-- The address is none of the `n` stack slots from SP downwards: {0x01, SP}, {0x01, SP - 1}, ... modulo 256 (R70, R77). -/
def OutsideSlots (n : Nat) (s : State) (k : Word) : Prop :=
  ∀ j : Nat, j < n → k.toNat ≠ 0x0100 + (s.sp.toNat + (256 - j)) % 256

/-- The byte that a list of writes, made in its order, writes to an address last; none where it writes none. -/
def lastWrite (writes : List (Word × Byte)) (k : Word) : Option Byte :=
  match writes with
  | [] => none
  | w :: rest => (lastWrite rest k).or (if w.1 = k then some w.2 else none)

/-- The two-digit BCD of a number below 100. -/
def bcd (p : Nat) : Byte := BitVec.ofNat 8 (16 * (p / 10) + p % 10)

end Sys2Proof.Claims

open Sys2Proof Sys2Proof.Machine Sys2Proof.Claims

/-- For every instruction i, with every operand at every value, and every list of bytes after it: decoding encode i
followed by those bytes gives i and exactly those bytes. (R100, R101, R131.) -/
def Obligations.DecodeReadsBackEncode : Prop :=
  ∀ (i : Instr) (rest : List Byte), decodeBytes (encode i ++ rest) = .instr i rest

/-- If a list of bytes decodes to i with rest left over, the list is encode i followed by rest: no two byte sequences
stand for one instruction, and no bit of an operand is dropped. (R100, R102, R130.) -/
def Obligations.EncodeIsTheOnlyImage : Prop :=
  ∀ (bytes : List Byte) (i : Instr) (rest : List Byte), decodeBytes bytes = .instr i rest → bytes = encode i ++ rest

/-- The list of R132 has 105 distinct opcodes; an opcode decodes to no instruction, whatever bytes follow it, exactly when
it is in that list; a step at such an opcode faults with IllegalOpcode of it, and the host finds the state unchanged.
(R132.) -/
def Obligations.IllegalOpcodesAreExactlyTheListed : Prop :=
  illegalOpcodes.length = 105 ∧ illegalOpcodes.Nodup ∧
  (∀ op b1 b2 : Byte, decodeOpcode op b1 b2 = none ↔ op ∈ illegalOpcodes) ∧
  (∀ s : State, memRead s s.pc ∈ illegalOpcodes →
    step s = .fault (.illegalOpcode (memRead s s.pc)) ∧ afterTransaction .step s = s)

/-- encode i has 1 + Bytes(mode of i) bytes, two instructions with one opcode have one length, and Bytes is 0 for Implied
and Accumulator, 2 for Absolute, Absolute,X, Absolute,Y and Indirect, and 1 for every other mode. (R102.) -/
def Obligations.LengthIsOnePlusModeBytes : Prop :=
  (∀ i : Instr, (encode i).length = 1 + modeBytes (modeOf i) ∧ (encode i).length = lengthOf i) ∧
  (∀ i j : Instr, opcodeOf i = opcodeOf j → (encode i).length = (encode j).length) ∧
  (∀ m : Mode, modeBytes m =
    if m = .implied ∨ m = .accumulator then 0
    else if m = .absolute ∨ m = .absoluteX ∨ m = .absoluteY ∨ m = .indirect then 2 else 1)

/-- One word per family of the opcode table, numbered as the table numbers bits, decodes to the instruction the spec's
syntax table and opcode map give it. (R101, R131, R134.) -/
def Obligations.SampleWordsDecode : Prop :=
  ∀ b1 b2 : Byte,
    decodeBytes [0xA9#8, b1, b2] = .instr (.ldaImm b1) [b2] ∧
    decodeBytes [0x8D#8, 0x00#8, 0x02#8] = .instr (.staAbs 0x0200#16) [] ∧
    decodeBytes [0xAA#8, b1] = .instr .tax [b1] ∧
    decodeBytes [0xE0#8, 0x05#8] = .instr (.cpxImm 0x05#8) [] ∧
    decodeBytes [0x91#8, b1] = .instr (.staIndY b1) [] ∧
    decodeBytes [0x0A#8, b1, b2] = .instr .aslAcc [b1, b2] ∧
    decodeBytes [0x6C#8, 0xFC#8, 0xFF#8] = .instr (.jmpInd 0xFFFC#16) [] ∧
    decodeBytes [0xD0#8, b1] = .instr (.bne b1) [] ∧
    decodeBytes [0x00#8, b1] = .instr .brk [b1] ∧
    decodeTableWord 24 0x020020 = some (.jsr 0x0200#16)

/-- When the three bytes at PC, PC + 1, PC + 2 (modulo 65536) decode to an instruction i, step is exec of i at that state.
(R140, R12.) -/
def Obligations.StepRunsDecodedInstruction : Prop :=
  ∀ (s : State) (i : Instr) (rest : List Byte),
    decodeBytes [memRead s s.pc, memRead s (s.pc + 1#16), memRead s (s.pc + 2#16)] = .instr i rest →
      step s = exec i s

/-- For every instruction i: if byte k of its encoding stands at PC + k modulo 65536 for every k below its length, the
step at that state is exec of i, whatever the bytes after it are. (R100, R102, R140.) -/
def Obligations.StepRunsInstructionInMemory : Prop :=
  ∀ (s : State) (i : Instr),
    (∀ k : Nat, k < (encode i).length → memRead s (s.pc + BitVec.ofNat 16 k) = (encode i).getD k 0#8) →
      step s = exec i s

/-- A step answers a next state if and only if the byte at PC is not one of the 105; it is never refused; and a fault is
IllegalOpcode of the byte at PC. No operand value, flag, stack pointer or address makes an assigned opcode fault. The
step result the host is given agrees: Executed when the step completes, IllegalOpcode(op) when it faults with op.
(R140, R142, R471, R472.) -/
def Obligations.StepCompletesExactlyOnAssignedOpcodes : Prop :=
  ∀ s : State,
    ((∃ t, step s = .next t) ↔ memRead s s.pc ∉ illegalOpcodes) ∧
    (∀ r, step s ≠ .refused r) ∧
    (∀ f, step s = .fault f → f = .illegalOpcode (memRead s s.pc)) ∧
    ((∃ n, stepResult s = .executed n) ↔ (∃ t, step s = .next t)) ∧
    (∀ op, stepResult s = .illegalOpcode op ↔ step s = .fault (.illegalOpcode op))

/-- After any number of steps from a state whose opcode is illegal the host finds that same state, and the step result is
still IllegalOpcode of the same opcode; the step itself is a fault, never a final state. (R470.) -/
def Obligations.IllegalOpcodeRepeatsUntilTheHostActs : Prop :=
  ∀ (s : State) (k : Nat), memRead s s.pc ∈ illegalOpcodes →
    afterTransactions (List.replicate k .step) s = s ∧
    step (afterTransactions (List.replicate k .step) s) = .fault (.illegalOpcode (memRead s s.pc)) ∧
    stepResult (afterTransactions (List.replicate k .step) s) = .illegalOpcode (memRead s s.pc)

/-- Changing B before a step changes no outcome and no register, flag or byte of memory after it, but B itself where the
instruction does not write B, and the status byte that PHP pushes at {0x01, SP} and BRK at {0x01, SP - 2}, which
differs in bit 4 only. (R36, R143.) -/
def Obligations.BreakFlagNeverStopsTheCore : Prop :=
  ∀ (s : State) (f : Bool),
    (∀ t, step s = .next t → ∃ u, step { s with b := f } = .next u ∧
      u.a = t.a ∧ u.x = t.x ∧ u.y = t.y ∧ u.sp = t.sp ∧ u.pc = t.pc ∧
      u.c = t.c ∧ u.z = t.z ∧ u.i = t.i ∧ u.d = t.d ∧ u.v = t.v ∧ u.n = t.n ∧ u.cfg = t.cfg ∧
      (u.b = t.b ∨ (u.b = f ∧ t.b = s.b)) ∧
      (∀ i, fetchInstr s = some i →
        (mnemonicOf i ∉ ["PHP", "BRK"] → u.mem = t.mem) ∧
        (mnemonicOf i = "PHP" → ∀ k : Word, k ≠ stackAddress s.sp → memRead u k = memRead t k) ∧
        (mnemonicOf i = "BRK" → ∀ k : Word, k ≠ stackAddress (s.sp - 2#8) → memRead u k = memRead t k) ∧
        (∀ (k : Word) (j : Nat), j ≠ 4 → (memRead u k).getLsbD j = (memRead t k).getLsbD j))) ∧
    (∀ e, step s = .fault e → step { s with b := f } = .fault e)

/-- For every instruction other than ADC, SBC, PHP and BRK, changing D before it changes nothing after it but D itself,
where the instruction does not write D: increments, decrements and compares are binary whatever D is. (R35, R286.) -/
def Obligations.DecimalFlagReadOnlyByAdcSbcAndPushes : Prop :=
  ∀ (i : Instr) (s t : State) (f : Bool), mnemonicOf i ∉ ["ADC", "SBC", "PHP", "BRK"] → exec i s = .next t →
    ∃ u, exec i { s with d := f } = .next u ∧ u = { t with d := u.d } ∧ (u.d = t.d ∨ (u.d = f ∧ t.d = s.d))

/-- For every instruction other than ADC, SBC and JMP, running it under other values of DECIMAL_MODE and JMP_IND_PAGE_WRAP
gives the same next state; and after any transaction the parameters are what they were. That the parameters are a
field of the state is the model's choice (log entry 3). (R8, R41, R119, R284, R285.) -/
def Obligations.ParametersReadOnlyByAdcSbcJmp : Prop :=
  (∀ (i : Instr) (s t : State) (g : Config), mnemonicOf i ∉ ["ADC", "SBC", "JMP"] → exec i s = .next t →
    exec i { s with cfg := g } = .next { t with cfg := g }) ∧
  (∀ (tr : Transaction) (s t : State), transact tr s = .next t → t.cfg = s.cfg)

/-- From every state whose memory is canonical (addresses strictly rising and below 65536, no entry equal to what an
unlisted address reads as), if step answers a next state its memory is canonical, and so it is after any transaction.
The list form of memory and the value an unlisted address reads as are the model's choice (log entry 2). (R60, R63.) -/
def Obligations.EveryStepKeepsMemoryCanonical : Prop :=
  (∀ s t : State, Safety.Inv s → step s = .next t → Safety.Inv t) ∧
  (∀ (tr : Transaction) (s t : State), Safety.Inv s → transact tr s = .next t → Safety.Inv t)

/-- The invariant that every step keeps holds at State.reset, at power-on, and after any host writes followed by RESET.
The empty list at power-on is the model's choice (log entry 2). (R521, R525.) -/
def Obligations.ResetAndBootAreCanonical : Prop :=
  Safety.Inv State.reset ∧ Safety.Inv State.powerOn ∧
  (∀ writes : List (Word × Byte), Safety.Inv (boot writes State.powerOn))

/-- Whenever an instruction completes: A is unchanged unless it is LDA, TXA, TYA, PLA, ADC, SBC, AND, ORA, EOR, or ASL,
LSR, ROL or ROR in accumulator mode; X unless LDX, TAX, TSX, INX, DEX; Y unless LDY, TAY, INY, DEY. RESET, NMI, IRQ
(alone or together), a host write and BRK change none of them. (R23.) -/
def Obligations.OnlyListedInstructionsWriteDataRegisters : Prop :=
  (∀ (i : Instr) (s t : State), exec i s = .next t →
    (mnemonicOf i ∉ ["LDA", "TXA", "TYA", "PLA", "ADC", "SBC", "AND", "ORA", "EOR"] →
      (mnemonicOf i ∉ ["ASL", "LSR", "ROL", "ROR"] ∨ modeOf i ≠ .accumulator) → t.a = s.a) ∧
    (mnemonicOf i ∉ ["LDX", "TAX", "TSX", "INX", "DEX"] → t.x = s.x) ∧
    (mnemonicOf i ∉ ["LDY", "TAY", "INY", "DEY"] → t.y = s.y)) ∧
  (∀ (tr : Transaction) (s t : State), tr ≠ .step → transact tr s = .next t → t.a = s.a ∧ t.x = s.x ∧ t.y = s.y) ∧
  (∀ s t : State, exec .brk s = .next t → t.a = s.a ∧ t.x = s.x ∧ t.y = s.y)

/-- Whenever an instruction completes, each of C, Z, I, D, B, V, N is unchanged unless the instruction is one its rule
names as a writer. NMI and IRQ change no flag but I, RESET none but I and B, and a host write none. (R30, R32, R33,
R34, R35, R36, R37, R38.) -/
def Obligations.OnlyListedInstructionsWriteFlags : Prop :=
  (∀ (i : Instr) (s t : State), exec i s = .next t →
    (mnemonicOf i ∉ ["ADC", "SBC", "CMP", "CPX", "CPY", "ASL", "LSR", "ROL", "ROR", "CLC", "SEC", "PLP", "RTI"] → t.c = s.c) ∧
    (mnemonicOf i ∉ ["LDA", "LDX", "LDY", "TAX", "TAY", "TXA", "TYA", "TSX", "PLA", "INC", "DEC", "INX", "INY", "DEX", "DEY", "AND", "ORA",
      "EOR", "ASL", "LSR", "ROL", "ROR", "ADC", "SBC", "CMP", "CPX", "CPY", "BIT", "PLP", "RTI"] → t.z = s.z ∧ t.n = s.n) ∧
    (mnemonicOf i ∉ ["SEI", "CLI", "PLP", "RTI", "BRK"] → t.i = s.i) ∧
    (mnemonicOf i ∉ ["SED", "CLD", "PLP", "RTI"] → t.d = s.d) ∧
    (mnemonicOf i ∉ ["BRK", "PLP", "RTI"] → t.b = s.b) ∧
    (mnemonicOf i ∉ ["ADC", "SBC", "BIT", "CLV", "PLP", "RTI"] → t.v = s.v)) ∧
  (∀ (tr : Transaction) (s t : State), tr ≠ .step → transact tr s = .next t →
    t.c = s.c ∧ t.z = s.z ∧ t.d = s.d ∧ t.v = s.v ∧ t.n = s.n) ∧
  (∀ s : State, (nmiPin s).b = s.b ∧ (irqPin s).b = s.b) ∧
  (∀ (s : State) (a : Word) (v : Byte), (hostWrite s a v).i = s.i ∧ (hostWrite s a v).b = s.b)

/-- Whenever an instruction completes: SP is one lower after PHA and PHP, two lower after JSR, three lower after BRK; one
higher after PLA and PLP, two higher after RTS, three higher after RTI (all modulo 256); X after TXS; and unchanged
after every other instruction. (R29, R67, R70, R71.) -/
def Obligations.OnlyStackInstructionsMoveSp : Prop :=
  ∀ (i : Instr) (s t : State), exec i s = .next t →
    t.sp =
      if mnemonicOf i ∈ ["PHA", "PHP"] then s.sp - 1#8
      else if mnemonicOf i = "JSR" then s.sp - 2#8
      else if mnemonicOf i = "BRK" then s.sp - 3#8
      else if mnemonicOf i ∈ ["PLA", "PLP"] then s.sp + 1#8
      else if mnemonicOf i = "RTS" then s.sp + 2#8
      else if mnemonicOf i = "RTI" then s.sp + 3#8
      else if mnemonicOf i = "TXS" then s.x
      else s.sp

/-- Whenever an instruction completes that is not STA, STX, STY, INC, DEC, PHA, PHP, JSR, BRK or a memory form of ASL,
LSR, ROL, ROR, every byte of memory reads as before, and the memory is the same list. RESET changes no byte either.
(R67, R105, R200.) -/
def Obligations.NonStoringInstructionsLeaveMemory : Prop :=
  (∀ (i : Instr) (s t : State), exec i s = .next t →
    (mnemonicOf i ∉ ["STA", "STX", "STY", "INC", "DEC", "ASL", "LSR", "ROL", "ROR", "PHA", "PHP", "JSR", "BRK"] ∨
      modeOf i = .accumulator) →
      t.mem = s.mem ∧ ∀ k : Word, memRead t k = memRead s k) ∧
  (∀ (s : State) (k : Word), memRead (resetPin s) k = memRead s k)

/-- After PHA, PHP, JSR or BRK completes, and after NMI or IRQ, every byte whose address is below 0x0100 or above 0x01FF
reads as before, whatever SP was. (R77, R464, R429.) -/
def Obligations.PushesWriteOnlyTheStackPage : Prop :=
  ∀ (s : State) (k : Word), (k.toNat < 0x0100 ∨ 0x01FF < k.toNat) →
    (∀ (i : Instr) (t : State), mnemonicOf i ∈ ["PHA", "PHP", "JSR", "BRK"] → exec i s = .next t →
      memRead t k = memRead s k) ∧
    memRead (nmiPin s) k = memRead s k ∧ memRead (irqPin s) k = memRead s k

/-- Whenever an instruction other than JMP, JSR, RTS, RTI, BRK and the eight branches completes, PC is the old PC plus the
length of the instruction modulo 65536. (R26, R141.) -/
def Obligations.PcAdvancesByLengthUnlessTransferred : Prop :=
  ∀ (i : Instr) (s t : State), exec i s = .next t →
    mnemonicOf i ∉ ["JMP", "JSR", "RTS", "RTI", "BRK", "BCC", "BCS", "BEQ", "BNE", "BMI", "BPL", "BVC", "BVS"] →
      t.pc.toNat = (s.pc.toNat + (encode i).length) % 65536

/-- Zero Page: {0, b1}. Zero Page,X and Zero Page,Y: (b1 + X) mod 256 and (b1 + Y) mod 256 in page zero (Zero Page,Y is
used only by opcodes B6 and 96). Absolute: {b2, b1}. Absolute,X and Absolute,Y: the base plus the index mod 65536,
crossing when the page changes. (zp,X): the word in page zero at (b1 + X) mod 256, its high byte at (b1 + X + 1) mod
256. (zp),Y: the word in page zero at b1, its high byte at (b1 + 1) mod 256, plus Y mod 65536, crossing when the page
changes. The other modes never cross. Each clause holds the effectiveAddress that the instructions use and the answer
of the resolver to that address. (R113, R114, R115, R116, R117, R118, R120, R121.) -/
def Obligations.IndexedAddressesWrap : Prop :=
  (∀ (s : State) (b1 b2 : Byte),
    let zp (p : Nat) : Byte := memRead s (BitVec.ofNat 16 (p % 256))
    let word (p : Nat) : Nat := (zp (p + 1)).toNat * 256 + (zp p).toNat
    let at' (mode : Mode) (operand : AddrMode) (ea : Nat) (cross : Bool) : Prop :=
      effectiveAddress operand s = BitVec.ofNat 16 ea ∧ resolve mode b1 b2 s = .addr (BitVec.ofNat 16 ea) cross
    let plain (mode : Mode) (operand : AddrMode) (ea : Nat) : Prop := at' mode operand ea false
    let indexed (mode : Mode) (operand : AddrMode) (base index : Nat) : Prop :=
      at' mode operand (base + index) (decide (base / 256 ≠ (base + index) % 65536 / 256))
    plain .zeroPage (.zp b1) b1.toNat ∧
    plain .zeroPageX (.zpX b1) ((b1.toNat + s.x.toNat) % 256) ∧
    plain .zeroPageY (.zpY b1) ((b1.toNat + s.y.toNat) % 256) ∧
    plain .absolute (.abs (wordOf b2 b1)) (b2.toNat * 256 + b1.toNat) ∧
    indexed .absoluteX (.absX (wordOf b2 b1)) (b2.toNat * 256 + b1.toNat) s.x.toNat ∧
    indexed .absoluteY (.absY (wordOf b2 b1)) (b2.toNat * 256 + b1.toNat) s.y.toNat ∧
    plain .indexedIndirectX (.indX b1) (word (b1.toNat + s.x.toNat)) ∧
    indexed .indirectIndexedY (.indY b1) (word b1.toNat) s.y.toNat) ∧
  (∀ i : Instr, modeOf i = .zeroPageY ↔ opcodeOf i ∈ [0xB6#8, 0x96#8])

/-- Implied resolves to nothing, Accumulator to A (used only by opcodes 0A, 4A, 2A, 6A), Immediate to its byte, Zero
Page,Y to (b1 + Y) mod 256 in page zero without crossing (used only by B6 and 96), Relative to PC + 2 + the signed
displacement mod 65536, crossing when the page differs from that of PC + 2 (used only by the eight branches). The
operand value M is the operand byte in Immediate, A in Accumulator, and the byte at the effective address in every
mode in memory; a result goes back to A or to the byte at the effective address. (R105, R110, R111, R112, R115, R122.) -/
def Obligations.SpecialModesAndTheirUsers : Prop :=
  (∀ (s : State) (b1 b2 : Byte),
    let target : Word := BitVec.ofInt 16 ((s.pc.toNat : Int) + 2 + b1.toInt)
    resolve .implied b1 b2 s = .none ∧
    resolve .accumulator b1 b2 s = .acc ∧ placeValue .acc s = s.a ∧ (∀ v, placeWrite .acc v s = { s with a := v }) ∧
    resolve .immediate b1 b2 s = .imm b1 ∧
    resolve .zeroPageY b1 b2 s = .addr (BitVec.ofNat 16 ((b1.toNat + s.y.toNat) % 256)) false ∧
    resolve .relative b1 b2 s = .target target (decide ((s.pc.toNat + 2) % 65536 / 256 ≠ target.toNat / 256))) ∧
  (∀ (s : State) (v : Byte) (mode : AddrMode),
    operandValue (.imm v) s = v ∧
    operandValue (.mem mode) s = memRead s (effectiveAddress mode s) ∧
    placeValue (.mem mode) s = memRead s (effectiveAddress mode s) ∧
    placeWrite (.mem mode) v s = memWrite s (effectiveAddress mode s) v) ∧
  (∀ i : Instr,
    (modeOf i = .implied → encode i = [opcodeOf i]) ∧
    (modeOf i = .immediate → (encode i).length = 2) ∧
    (modeOf i = .accumulator ↔ opcodeOf i ∈ [0x0A#8, 0x4A#8, 0x2A#8, 0x6A#8]) ∧
    (modeOf i = .zeroPageY ↔ opcodeOf i ∈ [0xB6#8, 0x96#8]) ∧
    (modeOf i = .relative ↔ mnemonicOf i ∈ ["BCC", "BCS", "BEQ", "BNE", "BMI", "BPL", "BVC", "BVS"]))

/-- After WriteWord(addr, w): the byte at addr is w[7:0], the byte at addr + 1 modulo 65536 is w[15:8], every other byte
is as before, and ReadWord(addr) is w, at every address. ReadWordZP takes both bytes from page zero, the second at p +
1 modulo 256. (R11, R62, R64, R65.) -/
def Obligations.WordAccessIsLittleEndian : Prop :=
  (∀ (s : State) (addr w : Word),
    readWord (writeWord s addr w) addr = w ∧
    (∀ k : Word, (memRead (writeWord s addr w) k).toNat =
      if k = addr then w.toNat % 256
      else if k.toNat = (addr.toNat + 1) % 65536 then w.toNat / 256
      else (memRead s k).toNat)) ∧
  (∀ (s : State) (p : Byte), (readWordZP s p).toNat =
    (memRead s (BitVec.ofNat 16 ((p.toNat + 1) % 256))).toNat * 256 + (memRead s (BitVec.ofNat 16 p.toNat)).toNat)

/-- If two states have canonical memories and every one of the 65536 addresses reads the same in both, the memories are
equal lists. The list form is the model's choice (log entry 2). (R60, R63.) -/
def Obligations.EqualContentsAreEqualMemories : Prop :=
  ∀ s t : State, Safety.Inv s → Safety.Inv t → (∀ k : Word, memRead s k = memRead t k) → s.mem = t.mem

/-- After host_write(a, v) the byte at a is v and every other byte is as before, and the register inspection shows what it
showed before; the snapshot is the 65536 bytes in address order; a repeated write of the same value changes nothing
more. (R28, R41, R63, R66.) -/
def Obligations.HostPortReadsAndWritesPlainMemory : Prop :=
  ∀ (s : State) (addr : Word) (v : Byte),
    (∀ k : Word, hostRead (hostWrite s addr v) k = if k = addr then v else hostRead s k) ∧
    inspect (hostWrite s addr v) = inspect s ∧
    (snapshot s).length = 65536 ∧ (∀ k : Word, (snapshot s)[k.toNat]? = some (memRead s k)) ∧
    (Safety.Inv s → hostWrite (hostWrite s addr v) addr v = hostWrite s addr v)

/-- From every state: PopWord after PushWord(w) returns w with SP restored; PopByte after PushByte(b) returns b with SP
restored; n pushes then n pops restore SP, for every n; PopFlags after PushFlags restores all seven slots; every push
decrements SP and every pop increments it. (R76.) -/
def Obligations.PopsUndoPushes : Prop :=
  (∀ (s : State) (w : Word), (popWord (pushWord w s)).1 = w ∧ (popWord (pushWord w s)).2.sp = s.sp) ∧
  (∀ (s : State) (v : Byte), (popByte (pushByte v s)).1 = v ∧ (popByte (pushByte v s)).2.sp = s.sp) ∧
  (∀ (s : State) (vs : List Byte),
    ((fun u : State => (popByte u).2)^[vs.length] (vs.foldl (fun u v => pushByte v u) s)).sp = s.sp) ∧
  (∀ s : State, popFlags (pushFlags s) = { s with mem := (pushFlags s).mem }) ∧
  (∀ (s : State) (v : Byte),
    (pushByte v s).sp.toNat = (s.sp.toNat + 255) % 256 ∧ (popByte s).2.sp.toNat = (s.sp.toNat + 1) % 256)

/-- PushByte(b) writes b at {0x01, SP} and no other byte, then SP is one lower modulo 256. After PushWord(w) the low byte
is at {0x01, SP + 1} and the high byte at {0x01, SP + 2} of the new SP (modulo 256 within the page), no other byte
changed, and no register but SP. (R70, R72.) -/
def Obligations.PushedWordIsLittleEndian : Prop :=
  (∀ (s : State) (v : Byte),
    pushByte v s = { s with mem := (pushByte v s).mem, sp := s.sp - 1#8 } ∧
    (∀ k : Word, memRead (pushByte v s) k = if k.toNat = 0x0100 + s.sp.toNat then v else memRead s k)) ∧
  (∀ (s : State) (w : Word),
    let t := pushWord w s
    t = { s with mem := t.mem, sp := s.sp - 2#8 } ∧
    (∀ k : Word, (memRead t k).toNat =
      if k.toNat = 0x0100 + (t.sp + 1#8).toNat then w.toNat % 256
      else if k.toNat = 0x0100 + (t.sp + 2#8).toNat then w.toNat / 256
      else (memRead s k).toNat))

/-- A PushByte at SP = 0x00 writes 0x0100 and leaves SP = 0xFF; a PopByte at SP = 0xFF sets SP = 0x00 and reads 0x0100;
every stack address is between 0x0100 and 0x01FF. (R77.) -/
def Obligations.StackWrapsInItsPage : Prop :=
  (∀ (s : State) (v : Byte), s.sp = 0x00#8 →
    (pushByte v s).sp = 0xFF#8 ∧ ∀ k : Word, memRead (pushByte v s) k = if k = 0x0100#16 then v else memRead s k) ∧
  (∀ s : State, s.sp = 0xFF#8 → (popByte s).2.sp = 0x00#8 ∧ (popByte s).1 = memRead s 0x0100#16) ∧
  (∀ p : Byte, 0x0100 ≤ (stackAddress p).toNat ∧ (stackAddress p).toNat ≤ 0x01FF)

/-- Each of the 18 load forms has the opcode R201-R203 give it and completes from every state with its register equal to
the operand value M, Z = (M = 0), N = bit 7 of M, PC past the instruction, and every other register, flag and byte of
memory unchanged. (R201, R202, R203.) -/
def Obligations.LoadsCopyOperandAndSetZN : Prop :=
  ∀ (s : State) (b1 lo hi : Byte),
    let zn (m : Byte) (len : Word) (t : State) : State := { t with z := decide (m = 0#8), n := m.msb, pc := s.pc + len }
    let la (src : Source) (len : Word) : State := zn (operandValue src s) len { s with a := operandValue src s }
    let lx (src : Source) (len : Word) : State := zn (operandValue src s) len { s with x := operandValue src s }
    let ly (src : Source) (len : Word) : State := zn (operandValue src s) len { s with y := operandValue src s }
    Runs (.ldaImm b1) [0xA9#8, b1] s (la (.imm b1) 2#16) ∧
    Runs (.ldaZp b1) [0xA5#8, b1] s (la (.mem (.zp b1)) 2#16) ∧
    Runs (.ldaZpX b1) [0xB5#8, b1] s (la (.mem (.zpX b1)) 2#16) ∧
    Runs (.ldaAbs (wordOf hi lo)) [0xAD#8, lo, hi] s (la (.mem (.abs (wordOf hi lo))) 3#16) ∧
    Runs (.ldaAbsX (wordOf hi lo)) [0xBD#8, lo, hi] s (la (.mem (.absX (wordOf hi lo))) 3#16) ∧
    Runs (.ldaAbsY (wordOf hi lo)) [0xB9#8, lo, hi] s (la (.mem (.absY (wordOf hi lo))) 3#16) ∧
    Runs (.ldaIndX b1) [0xA1#8, b1] s (la (.mem (.indX b1)) 2#16) ∧
    Runs (.ldaIndY b1) [0xB1#8, b1] s (la (.mem (.indY b1)) 2#16) ∧
    Runs (.ldxImm b1) [0xA2#8, b1] s (lx (.imm b1) 2#16) ∧
    Runs (.ldxZp b1) [0xA6#8, b1] s (lx (.mem (.zp b1)) 2#16) ∧
    Runs (.ldxZpY b1) [0xB6#8, b1] s (lx (.mem (.zpY b1)) 2#16) ∧
    Runs (.ldxAbs (wordOf hi lo)) [0xAE#8, lo, hi] s (lx (.mem (.abs (wordOf hi lo))) 3#16) ∧
    Runs (.ldxAbsY (wordOf hi lo)) [0xBE#8, lo, hi] s (lx (.mem (.absY (wordOf hi lo))) 3#16) ∧
    Runs (.ldyImm b1) [0xA0#8, b1] s (ly (.imm b1) 2#16) ∧
    Runs (.ldyZp b1) [0xA4#8, b1] s (ly (.mem (.zp b1)) 2#16) ∧
    Runs (.ldyZpX b1) [0xB4#8, b1] s (ly (.mem (.zpX b1)) 2#16) ∧
    Runs (.ldyAbs (wordOf hi lo)) [0xAC#8, lo, hi] s (ly (.mem (.abs (wordOf hi lo))) 3#16) ∧
    Runs (.ldyAbsX (wordOf hi lo)) [0xBC#8, lo, hi] s (ly (.mem (.absX (wordOf hi lo))) 3#16)

/-- Each of the 13 store forms has the opcode R204-R206 give it and completes from every state with its register's value
at the effective address, every other byte of memory as before, PC past the instruction, and every register and flag
unchanged. (R204, R205, R206.) -/
def Obligations.StoresWriteOneByteAndNoFlag : Prop :=
  ∀ (s : State) (b1 lo hi : Byte),
    let store (v : Byte) (mode : AddrMode) (len : Word) : State :=
      { memWrite s (effectiveAddress mode s) v with pc := s.pc + len }
    (∀ (v : Byte) (mode : AddrMode) (len k : Word),
      memRead (store v mode len) k = if k = effectiveAddress mode s then v else memRead s k) ∧
    (∀ (v : Byte) (mode : AddrMode) (len : Word),
      store v mode len = { s with mem := (store v mode len).mem, pc := s.pc + len }) ∧
    Runs (.staZp b1) [0x85#8, b1] s (store s.a (.zp b1) 2#16) ∧
    Runs (.staZpX b1) [0x95#8, b1] s (store s.a (.zpX b1) 2#16) ∧
    Runs (.staAbs (wordOf hi lo)) [0x8D#8, lo, hi] s (store s.a (.abs (wordOf hi lo)) 3#16) ∧
    Runs (.staAbsX (wordOf hi lo)) [0x9D#8, lo, hi] s (store s.a (.absX (wordOf hi lo)) 3#16) ∧
    Runs (.staAbsY (wordOf hi lo)) [0x99#8, lo, hi] s (store s.a (.absY (wordOf hi lo)) 3#16) ∧
    Runs (.staIndX b1) [0x81#8, b1] s (store s.a (.indX b1) 2#16) ∧
    Runs (.staIndY b1) [0x91#8, b1] s (store s.a (.indY b1) 2#16) ∧
    Runs (.stxZp b1) [0x86#8, b1] s (store s.x (.zp b1) 2#16) ∧
    Runs (.stxZpY b1) [0x96#8, b1] s (store s.x (.zpY b1) 2#16) ∧
    Runs (.stxAbs (wordOf hi lo)) [0x8E#8, lo, hi] s (store s.x (.abs (wordOf hi lo)) 3#16) ∧
    Runs (.styZp b1) [0x84#8, b1] s (store s.y (.zp b1) 2#16) ∧
    Runs (.styZpX b1) [0x94#8, b1] s (store s.y (.zpX b1) 2#16) ∧
    Runs (.styAbs (wordOf hi lo)) [0x8C#8, lo, hi] s (store s.y (.abs (wordOf hi lo)) 3#16)

/-- Each transfer completes from every state: the destination takes the source, PC is one further, Z and N follow the
value but for TXS, and nothing else changes. (R241, R242, R243, R244, R245, R246.) -/
def Obligations.TransfersCopyRegisters : Prop :=
  ∀ s : State,
    let zn (m : Byte) (t : State) : State := { t with z := decide (m = 0#8), n := m.msb, pc := s.pc + 1#16 }
    Runs .tax [0xAA#8] s (zn s.a { s with x := s.a }) ∧
    Runs .tay [0xA8#8] s (zn s.a { s with y := s.a }) ∧
    Runs .txa [0x8A#8] s (zn s.x { s with a := s.x }) ∧
    Runs .tya [0x98#8] s (zn s.y { s with a := s.y }) ∧
    Runs .tsx [0xBA#8] s (zn s.sp { s with x := s.sp }) ∧
    Runs .txs [0x9A#8] s { s with sp := s.x, pc := s.pc + 1#16 }

/-- PHA pushes A and PHP pushes P = {N, V, 1, B, D, I, Z, C} with bit 4 the stored B and bit 5 one: the byte is at 0x0100
+ SP, every other byte is as before, SP is one lower, PC one further, every other register and every flag unchanged.
(R247, R248.) -/
def Obligations.PushesWriteAccumulatorAndStatus : Prop :=
  ∀ s : State, ∃ t u : State,
    Runs .pha [0x48#8] s t ∧ Runs .php [0x08#8] s u ∧
    t = { s with mem := t.mem, sp := s.sp - 1#8, pc := s.pc + 1#16 } ∧
    u = { s with mem := u.mem, sp := s.sp - 1#8, pc := s.pc + 1#16 } ∧
    (∀ k : Word, memRead t k = if k.toNat = 0x0100 + s.sp.toNat then s.a else memRead s k) ∧
    (∀ k : Word, memRead u k = if k.toNat = 0x0100 + s.sp.toNat then packStatus s else memRead s k)

/-- PLA: A is the byte at 0x0100 + (SP + 1 mod 256), Z and N follow it. PLP: N, V, B, D, I, Z, C are its bits 7, 6, 4, 3,
2, 1, 0. SP is one higher, PC one further, nothing else changes. (R249, R250.) -/
def Obligations.PullsLoadAccumulatorAndFlags : Prop :=
  ∀ s : State,
    let p := memRead s (BitVec.ofNat 16 (0x0100 + (s.sp.toNat + 1) % 256))
    Runs .pla [0x68#8] s
      { s with a := p, z := decide (p = 0#8), n := p.msb, sp := s.sp + 1#8, pc := s.pc + 1#16 } ∧
    Runs .plp [0x28#8] s
      { s with
        n := p.getLsbD 7, v := p.getLsbD 6, b := p.getLsbD 4, d := p.getLsbD 3,
        i := p.getLsbD 2, z := p.getLsbD 1, c := p.getLsbD 0,
        sp := s.sp + 1#8, pc := s.pc + 1#16 }

/-- In each of its eight modes ADC completes. With D = 0 or DECIMAL_MODE = binary: A is A + M + C modulo 256, C its carry
out of 8 bits, V whether the signed sum leaves -128..127, Z and N from the result. With D = 1 and DECIMAL_MODE = nmos:
A, C, N, V, Z are those of AdcDecimal(A, M, C). PC is past the instruction and nothing else changes. (R284.) -/
def Obligations.AdcAddsWithCarry : Prop :=
  ∀ (s : State) (b1 lo hi : Byte),
    let binary (m : Byte) : State :=
      let sum : Nat := s.a.toNat + m.toNat + s.c.toNat
      let signed : Int := s.a.toInt + m.toInt + (s.c.toNat : Int)
      { s with
        a := BitVec.ofNat 8 sum, c := decide (256 ≤ sum), v := decide (signed < -128 ∨ 127 < signed),
        z := decide (sum % 256 = 0), n := decide (128 ≤ sum % 256) }
    let decimal (m : Byte) : State :=
      let r := adcDecimal s.a m s.c
      { s with a := r.result, c := r.carry, n := r.negative, v := r.overflow, z := r.zero }
    let add (src : Source) (len : Word) : State :=
      { (if s.d = true ∧ s.cfg.decimalMode = .nmos then decimal (operandValue src s) else binary (operandValue src s)) with
        pc := s.pc + len }
    Runs (.adcImm b1) [0x69#8, b1] s (add (.imm b1) 2#16) ∧
    Runs (.adcZp b1) [0x65#8, b1] s (add (.mem (.zp b1)) 2#16) ∧
    Runs (.adcZpX b1) [0x75#8, b1] s (add (.mem (.zpX b1)) 2#16) ∧
    Runs (.adcAbs (wordOf hi lo)) [0x6D#8, lo, hi] s (add (.mem (.abs (wordOf hi lo))) 3#16) ∧
    Runs (.adcAbsX (wordOf hi lo)) [0x7D#8, lo, hi] s (add (.mem (.absX (wordOf hi lo))) 3#16) ∧
    Runs (.adcAbsY (wordOf hi lo)) [0x79#8, lo, hi] s (add (.mem (.absY (wordOf hi lo))) 3#16) ∧
    Runs (.adcIndX b1) [0x61#8, b1] s (add (.mem (.indX b1)) 2#16) ∧
    Runs (.adcIndY b1) [0x71#8, b1] s (add (.mem (.indY b1)) 2#16)

/-- For all a, m, c: the result is a + m + c modulo 256, the carry is set exactly when the sum is at least 256, and V
exactly when signed(a) + signed(m) + c lies outside -128..127, which is also when both operands' signs differ from the
result's. (R281.) -/
def Obligations.AddBinaryIsExactAddition : Prop :=
  ∀ (a m : Byte) (c : Bool),
    let r := addBinary a m c
    r.result.toNat = (a.toNat + m.toNat + c.toNat) % 256 ∧
    (r.carry = true ↔ 256 ≤ a.toNat + m.toNat + c.toNat) ∧
    (r.overflow = true ↔ (a.toInt + m.toInt + (c.toNat : Int) < -128 ∨ 127 < a.toInt + m.toInt + (c.toNat : Int))) ∧
    (r.overflow = true ↔ (a.msb ≠ r.result.msb ∧ m.msb ≠ r.result.msb))

/-- For every a, m and c, valid BCD or not, the five results are those of the digit arithmetic of R282 written with
division and remainder; and for operands that are the BCD of two numbers below 100 the result is the BCD of their sum
with carry modulo 100, and the carry is set exactly when the sum reaches 100. (R282.) -/
def Obligations.AdcDecimalFollowsNmosAlgorithm : Prop :=
  (∀ (a m : Byte) (c : Bool),
    let low : Nat := a.toNat % 16 + m.toNat % 16 + c.toNat
    let al : Nat := if 10 ≤ low then (low + 6) % 16 + 16 else low
    let s1 : Nat := a.toNat / 16 * 16 + m.toNat / 16 * 16 + al
    let signedHigh (v : Byte) : Int := if 128 ≤ v.toNat then ((v.toNat / 16 * 16 : Nat) : Int) - 256 else ((v.toNat / 16 * 16 : Nat) : Int)
    let t : Int := signedHigh a + signedHigh m + (al : Int)
    let s2 : Nat := if 160 ≤ s1 then s1 + 96 else s1
    adcDecimal a m c =
      { result := BitVec.ofNat 8 s2
        carry := decide (256 ≤ s2)
        negative := decide (128 ≤ s1 % 256)
        overflow := decide (t < -128 ∨ 127 < t)
        zero := decide ((a.toNat + m.toNat + c.toNat) % 256 = 0) }) ∧
  (∀ (p q : Nat) (c : Bool), p < 100 → q < 100 →
    let r := adcDecimal (bcd p) (bcd q) c
    r.result = bcd ((p + q + c.toNat) % 100) ∧ (r.carry = true ↔ 100 ≤ p + q + c.toNat))

/-- In each of its eight modes SBC completes with C set exactly when A >= M + (1 - C) unsigned, V exactly when the signed
difference leaves -128..127, Z and N from the binary difference A - M - (1 - C) modulo 256. A is that difference, or
SbcDecimal(A, M, C) when D = 1 and DECIMAL_MODE = nmos. PC is past the instruction and nothing else changes. (R285.) -/
def Obligations.SbcSubtractsWithBorrow : Prop :=
  ∀ (s : State) (b1 lo hi : Byte),
    let subtract (src : Source) (len : Word) : State :=
      let m := operandValue src s
      let borrow : Nat := 1 - s.c.toNat
      let diff : Byte := s.a - m - BitVec.ofNat 8 borrow
      let signed : Int := s.a.toInt - m.toInt - (borrow : Int)
      { s with
        a := if s.d = true ∧ s.cfg.decimalMode = .nmos then sbcDecimal s.a m s.c else diff
        c := decide (m.toNat + borrow ≤ s.a.toNat), v := decide (signed < -128 ∨ 127 < signed),
        z := decide (diff = 0#8), n := diff.msb, pc := s.pc + len }
    Runs (.sbcImm b1) [0xE9#8, b1] s (subtract (.imm b1) 2#16) ∧
    Runs (.sbcZp b1) [0xE5#8, b1] s (subtract (.mem (.zp b1)) 2#16) ∧
    Runs (.sbcZpX b1) [0xF5#8, b1] s (subtract (.mem (.zpX b1)) 2#16) ∧
    Runs (.sbcAbs (wordOf hi lo)) [0xED#8, lo, hi] s (subtract (.mem (.abs (wordOf hi lo))) 3#16) ∧
    Runs (.sbcAbsX (wordOf hi lo)) [0xFD#8, lo, hi] s (subtract (.mem (.absX (wordOf hi lo))) 3#16) ∧
    Runs (.sbcAbsY (wordOf hi lo)) [0xF9#8, lo, hi] s (subtract (.mem (.absY (wordOf hi lo))) 3#16) ∧
    Runs (.sbcIndX b1) [0xE1#8, b1] s (subtract (.mem (.indX b1)) 2#16) ∧
    Runs (.sbcIndY b1) [0xF1#8, b1] s (subtract (.mem (.indY b1)) 2#16)

/-- For every a, m and c the result is that of the digit arithmetic of R283 written with division and remainder on
integers; and for operands that are the BCD of two numbers below 100 it is the BCD of their difference with borrow
modulo 100. (R283.) -/
def Obligations.SbcDecimalFollowsNmosAlgorithm : Prop :=
  (∀ (a m : Byte) (c : Bool),
    let low : Int := ((a.toNat % 16 : Nat) : Int) - ((m.toNat % 16 : Nat) : Int) + (c.toNat : Int) - 1
    let al : Int := if low < 0 then (low - 6) % 16 - 16 else low
    let d : Int := ((a.toNat / 16 * 16 : Nat) : Int) - ((m.toNat / 16 * 16 : Nat) : Int) + al
    ((sbcDecimal a m c).toNat : Int) = (if d < 0 then d - 96 else d) % 256) ∧
  (∀ (p q : Nat) (c : Bool), p < 100 → q < 100 → sbcDecimal (bcd p) (bcd q) c = bcd ((p + 99 - q + c.toNat) % 100))

/-- In each of their 14 forms the compares complete with C set exactly when the register is at least M unsigned, Z exactly
when they are equal, N the sign bit of their difference modulo 256, PC past the instruction, and nothing else changed:
no register, no V, whatever D is. (R286, R287, R288, R289.) -/
def Obligations.ComparesSetCarryZeroNegative : Prop :=
  ∀ (s : State) (b1 lo hi : Byte),
    let cmp (r : Byte) (src : Source) (len : Word) : State :=
      let m := operandValue src s
      { s with
        c := decide (m.toNat ≤ r.toNat), z := decide (r = m),
        n := decide (128 ≤ (r.toNat + (256 - m.toNat)) % 256), pc := s.pc + len }
    Runs (.cmpImm b1) [0xC9#8, b1] s (cmp s.a (.imm b1) 2#16) ∧
    Runs (.cmpZp b1) [0xC5#8, b1] s (cmp s.a (.mem (.zp b1)) 2#16) ∧
    Runs (.cmpZpX b1) [0xD5#8, b1] s (cmp s.a (.mem (.zpX b1)) 2#16) ∧
    Runs (.cmpAbs (wordOf hi lo)) [0xCD#8, lo, hi] s (cmp s.a (.mem (.abs (wordOf hi lo))) 3#16) ∧
    Runs (.cmpAbsX (wordOf hi lo)) [0xDD#8, lo, hi] s (cmp s.a (.mem (.absX (wordOf hi lo))) 3#16) ∧
    Runs (.cmpAbsY (wordOf hi lo)) [0xD9#8, lo, hi] s (cmp s.a (.mem (.absY (wordOf hi lo))) 3#16) ∧
    Runs (.cmpIndX b1) [0xC1#8, b1] s (cmp s.a (.mem (.indX b1)) 2#16) ∧
    Runs (.cmpIndY b1) [0xD1#8, b1] s (cmp s.a (.mem (.indY b1)) 2#16) ∧
    Runs (.cpxImm b1) [0xE0#8, b1] s (cmp s.x (.imm b1) 2#16) ∧
    Runs (.cpxZp b1) [0xE4#8, b1] s (cmp s.x (.mem (.zp b1)) 2#16) ∧
    Runs (.cpxAbs (wordOf hi lo)) [0xEC#8, lo, hi] s (cmp s.x (.mem (.abs (wordOf hi lo))) 3#16) ∧
    Runs (.cpyImm b1) [0xC0#8, b1] s (cmp s.y (.imm b1) 2#16) ∧
    Runs (.cpyZp b1) [0xC4#8, b1] s (cmp s.y (.mem (.zp b1)) 2#16) ∧
    Runs (.cpyAbs (wordOf hi lo)) [0xCC#8, lo, hi] s (cmp s.y (.mem (.abs (wordOf hi lo))) 3#16)

/-- In each of their eight forms the byte at the effective address becomes itself plus or minus one modulo 256, every
other byte of memory is as before, Z and N follow the new byte, C, V and D and every register are unchanged, and PC is
past the instruction. (R290, R291.) -/
def Obligations.IncDecModifyOneByte : Prop :=
  ∀ (s : State) (b1 lo hi : Byte),
    let rmw (r : Byte) (carry : Bool) (mode : AddrMode) (len : Word) : State :=
      { memWrite s (effectiveAddress mode s) r with
        c := carry, z := decide (r = 0#8), n := r.msb, pc := s.pc + len }
    let at' (mode : AddrMode) : Nat := (memRead s (effectiveAddress mode s)).toNat
    (∀ (r : Byte) (carry : Bool) (mode : AddrMode) (len k : Word),
      memRead (rmw r carry mode len) k = if k = effectiveAddress mode s then r else memRead s k) ∧
    Runs (.incZp b1) [0xE6#8, b1] s (rmw (BitVec.ofNat 8 (at' (.zp b1) + 1)) s.c (.zp b1) 2#16) ∧
    Runs (.incZpX b1) [0xF6#8, b1] s (rmw (BitVec.ofNat 8 (at' (.zpX b1) + 1)) s.c (.zpX b1) 2#16) ∧
    Runs (.incAbs (wordOf hi lo)) [0xEE#8, lo, hi] s (rmw (BitVec.ofNat 8 (at' (.abs (wordOf hi lo)) + 1)) s.c (.abs (wordOf hi lo)) 3#16) ∧
    Runs (.incAbsX (wordOf hi lo)) [0xFE#8, lo, hi] s (rmw (BitVec.ofNat 8 (at' (.absX (wordOf hi lo)) + 1)) s.c (.absX (wordOf hi lo)) 3#16) ∧
    Runs (.decZp b1) [0xC6#8, b1] s (rmw (BitVec.ofNat 8 (at' (.zp b1) + 255)) s.c (.zp b1) 2#16) ∧
    Runs (.decZpX b1) [0xD6#8, b1] s (rmw (BitVec.ofNat 8 (at' (.zpX b1) + 255)) s.c (.zpX b1) 2#16) ∧
    Runs (.decAbs (wordOf hi lo)) [0xCE#8, lo, hi] s (rmw (BitVec.ofNat 8 (at' (.abs (wordOf hi lo)) + 255)) s.c (.abs (wordOf hi lo)) 3#16) ∧
    Runs (.decAbsX (wordOf hi lo)) [0xDE#8, lo, hi] s (rmw (BitVec.ofNat 8 (at' (.absX (wordOf hi lo)) + 255)) s.c (.absX (wordOf hi lo)) 3#16)

/-- X or Y becomes itself plus or minus one modulo 256, Z and N follow it, PC is one further, and nothing else changes.
(R292, R293, R294, R295.) -/
def Obligations.IndexIncrementsAndDecrements : Prop :=
  ∀ s : State,
    let inc (r : Byte) : Byte := BitVec.ofNat 8 (r.toNat + 1)
    let dec (r : Byte) : Byte := BitVec.ofNat 8 (r.toNat + 255)
    let zn (m : Byte) (t : State) : State := { t with z := decide (m = 0#8), n := m.msb, pc := s.pc + 1#16 }
    Runs .inx [0xE8#8] s (zn (inc s.x) { s with x := inc s.x }) ∧
    Runs .iny [0xC8#8] s (zn (inc s.y) { s with y := inc s.y }) ∧
    Runs .dex [0xCA#8] s (zn (dec s.x) { s with x := dec s.x }) ∧
    Runs .dey [0x88#8] s (zn (dec s.y) { s with y := dec s.y })

/-- In each of their 24 forms A becomes A and M, A or M, A exclusive-or M; Z and N follow the new A; PC is past the
instruction; nothing else changes. (R331, R332, R333.) -/
def Obligations.LogicCombinesBitwise : Prop :=
  ∀ (s : State) (b1 lo hi : Byte),
    let zn (m : Byte) (len : Word) : State := { s with a := m, z := decide (m = 0#8), n := m.msb, pc := s.pc + len }
    let land (src : Source) (len : Word) : State := zn (s.a &&& operandValue src s) len
    let lor (src : Source) (len : Word) : State := zn (s.a ||| operandValue src s) len
    let lxor (src : Source) (len : Word) : State := zn (s.a ^^^ operandValue src s) len
    Runs (.andImm b1) [0x29#8, b1] s (land (.imm b1) 2#16) ∧
    Runs (.andZp b1) [0x25#8, b1] s (land (.mem (.zp b1)) 2#16) ∧
    Runs (.andZpX b1) [0x35#8, b1] s (land (.mem (.zpX b1)) 2#16) ∧
    Runs (.andAbs (wordOf hi lo)) [0x2D#8, lo, hi] s (land (.mem (.abs (wordOf hi lo))) 3#16) ∧
    Runs (.andAbsX (wordOf hi lo)) [0x3D#8, lo, hi] s (land (.mem (.absX (wordOf hi lo))) 3#16) ∧
    Runs (.andAbsY (wordOf hi lo)) [0x39#8, lo, hi] s (land (.mem (.absY (wordOf hi lo))) 3#16) ∧
    Runs (.andIndX b1) [0x21#8, b1] s (land (.mem (.indX b1)) 2#16) ∧
    Runs (.andIndY b1) [0x31#8, b1] s (land (.mem (.indY b1)) 2#16) ∧
    Runs (.oraImm b1) [0x09#8, b1] s (lor (.imm b1) 2#16) ∧
    Runs (.oraZp b1) [0x05#8, b1] s (lor (.mem (.zp b1)) 2#16) ∧
    Runs (.oraZpX b1) [0x15#8, b1] s (lor (.mem (.zpX b1)) 2#16) ∧
    Runs (.oraAbs (wordOf hi lo)) [0x0D#8, lo, hi] s (lor (.mem (.abs (wordOf hi lo))) 3#16) ∧
    Runs (.oraAbsX (wordOf hi lo)) [0x1D#8, lo, hi] s (lor (.mem (.absX (wordOf hi lo))) 3#16) ∧
    Runs (.oraAbsY (wordOf hi lo)) [0x19#8, lo, hi] s (lor (.mem (.absY (wordOf hi lo))) 3#16) ∧
    Runs (.oraIndX b1) [0x01#8, b1] s (lor (.mem (.indX b1)) 2#16) ∧
    Runs (.oraIndY b1) [0x11#8, b1] s (lor (.mem (.indY b1)) 2#16) ∧
    Runs (.eorImm b1) [0x49#8, b1] s (lxor (.imm b1) 2#16) ∧
    Runs (.eorZp b1) [0x45#8, b1] s (lxor (.mem (.zp b1)) 2#16) ∧
    Runs (.eorZpX b1) [0x55#8, b1] s (lxor (.mem (.zpX b1)) 2#16) ∧
    Runs (.eorAbs (wordOf hi lo)) [0x4D#8, lo, hi] s (lxor (.mem (.abs (wordOf hi lo))) 3#16) ∧
    Runs (.eorAbsX (wordOf hi lo)) [0x5D#8, lo, hi] s (lxor (.mem (.absX (wordOf hi lo))) 3#16) ∧
    Runs (.eorAbsY (wordOf hi lo)) [0x59#8, lo, hi] s (lxor (.mem (.absY (wordOf hi lo))) 3#16) ∧
    Runs (.eorIndX b1) [0x41#8, b1] s (lxor (.mem (.indX b1)) 2#16) ∧
    Runs (.eorIndY b1) [0x51#8, b1] s (lxor (.mem (.indY b1)) 2#16)

/-- In both its forms Z is set exactly when A and M have no common bit, N and V are bits 7 and 6 of M (not of A and M), PC
is past the instruction, and A and everything else are unchanged. (R334.) -/
def Obligations.BitTestsWithoutWritingA : Prop :=
  ∀ (s : State) (b1 lo hi : Byte),
    let test (src : Source) (len : Word) : State :=
      let m := operandValue src s
      { s with z := decide (s.a &&& m = 0#8), n := m.msb, v := m.getLsbD 6, pc := s.pc + len }
    Runs (.bitZp b1) [0x24#8, b1] s (test (.mem (.zp b1)) 2#16) ∧
    Runs (.bitAbs (wordOf hi lo)) [0x2C#8, lo, hi] s (test (.mem (.abs (wordOf hi lo))) 3#16)

/-- ASL gives twice the value modulo 256 with C the old bit 7; LSR gives half of it with C the old bit 0. In the
accumulator form A takes the result and memory is unchanged; in a memory form the byte at EA takes it, every other
byte and A are as before. Z and N follow the result, PC is past the instruction, nothing else changes. (R335, R336.) -/
def Obligations.ShiftsMoveOneBit : Prop :=
  ∀ (s : State) (b1 lo hi : Byte),
    let acc (r : Byte) (carry : Bool) : State :=
      { s with a := r, c := carry, z := decide (r = 0#8), n := r.msb, pc := s.pc + 1#16 }
    let rmw (r : Byte) (carry : Bool) (mode : AddrMode) (len : Word) : State :=
      { memWrite s (effectiveAddress mode s) r with
        c := carry, z := decide (r = 0#8), n := r.msb, pc := s.pc + len }
    let at' (mode : AddrMode) : Nat := (memRead s (effectiveAddress mode s)).toNat
    (∀ (r : Byte) (carry : Bool) (mode : AddrMode) (len k : Word),
      memRead (rmw r carry mode len) k = if k = effectiveAddress mode s then r else memRead s k) ∧
    Runs .aslAcc [0x0A#8] s (acc (BitVec.ofNat 8 (2 * s.a.toNat)) (decide (128 ≤ s.a.toNat))) ∧
    Runs (.aslZp b1) [0x06#8, b1] s (rmw (BitVec.ofNat 8 (2 * (at' (.zp b1)))) (decide (128 ≤ (at' (.zp b1)))) (.zp b1) 2#16) ∧
    Runs (.aslZpX b1) [0x16#8, b1] s (rmw (BitVec.ofNat 8 (2 * (at' (.zpX b1)))) (decide (128 ≤ (at' (.zpX b1)))) (.zpX b1) 2#16) ∧
    Runs (.aslAbs (wordOf hi lo)) [0x0E#8, lo, hi] s (rmw (BitVec.ofNat 8 (2 * (at' (.abs (wordOf hi lo))))) (decide (128 ≤ (at' (.abs (wordOf hi lo))))) (.abs (wordOf hi lo)) 3#16) ∧
    Runs (.aslAbsX (wordOf hi lo)) [0x1E#8, lo, hi] s (rmw (BitVec.ofNat 8 (2 * (at' (.absX (wordOf hi lo))))) (decide (128 ≤ (at' (.absX (wordOf hi lo))))) (.absX (wordOf hi lo)) 3#16) ∧
    Runs .lsrAcc [0x4A#8] s (acc (BitVec.ofNat 8 (s.a.toNat / 2)) (decide (s.a.toNat % 2 = 1))) ∧
    Runs (.lsrZp b1) [0x46#8, b1] s (rmw (BitVec.ofNat 8 ((at' (.zp b1)) / 2)) (decide ((at' (.zp b1)) % 2 = 1)) (.zp b1) 2#16) ∧
    Runs (.lsrZpX b1) [0x56#8, b1] s (rmw (BitVec.ofNat 8 ((at' (.zpX b1)) / 2)) (decide ((at' (.zpX b1)) % 2 = 1)) (.zpX b1) 2#16) ∧
    Runs (.lsrAbs (wordOf hi lo)) [0x4E#8, lo, hi] s (rmw (BitVec.ofNat 8 ((at' (.abs (wordOf hi lo))) / 2)) (decide ((at' (.abs (wordOf hi lo))) % 2 = 1)) (.abs (wordOf hi lo)) 3#16) ∧
    Runs (.lsrAbsX (wordOf hi lo)) [0x5E#8, lo, hi] s (rmw (BitVec.ofNat 8 ((at' (.absX (wordOf hi lo))) / 2)) (decide ((at' (.absX (wordOf hi lo))) % 2 = 1)) (.absX (wordOf hi lo)) 3#16)

/-- ROL gives twice the value plus the old carry modulo 256 with C the old bit 7; ROR gives half of it plus 128 times the
old carry with C the old bit 0. The accumulator and memory forms write and leave what the shifts do. (R337, R338.) -/
def Obligations.RotatesMoveThroughCarry : Prop :=
  ∀ (s : State) (b1 lo hi : Byte),
    let acc (r : Byte) (carry : Bool) : State :=
      { s with a := r, c := carry, z := decide (r = 0#8), n := r.msb, pc := s.pc + 1#16 }
    let rmw (r : Byte) (carry : Bool) (mode : AddrMode) (len : Word) : State :=
      { memWrite s (effectiveAddress mode s) r with
        c := carry, z := decide (r = 0#8), n := r.msb, pc := s.pc + len }
    let at' (mode : AddrMode) : Nat := (memRead s (effectiveAddress mode s)).toNat
    (∀ (r : Byte) (carry : Bool) (mode : AddrMode) (len k : Word),
      memRead (rmw r carry mode len) k = if k = effectiveAddress mode s then r else memRead s k) ∧
    Runs .rolAcc [0x2A#8] s (acc (BitVec.ofNat 8 (2 * s.a.toNat + s.c.toNat)) (decide (128 ≤ s.a.toNat))) ∧
    Runs (.rolZp b1) [0x26#8, b1] s (rmw (BitVec.ofNat 8 (2 * (at' (.zp b1)) + s.c.toNat)) (decide (128 ≤ (at' (.zp b1)))) (.zp b1) 2#16) ∧
    Runs (.rolZpX b1) [0x36#8, b1] s (rmw (BitVec.ofNat 8 (2 * (at' (.zpX b1)) + s.c.toNat)) (decide (128 ≤ (at' (.zpX b1)))) (.zpX b1) 2#16) ∧
    Runs (.rolAbs (wordOf hi lo)) [0x2E#8, lo, hi] s (rmw (BitVec.ofNat 8 (2 * (at' (.abs (wordOf hi lo))) + s.c.toNat)) (decide (128 ≤ (at' (.abs (wordOf hi lo))))) (.abs (wordOf hi lo)) 3#16) ∧
    Runs (.rolAbsX (wordOf hi lo)) [0x3E#8, lo, hi] s (rmw (BitVec.ofNat 8 (2 * (at' (.absX (wordOf hi lo))) + s.c.toNat)) (decide (128 ≤ (at' (.absX (wordOf hi lo))))) (.absX (wordOf hi lo)) 3#16) ∧
    Runs .rorAcc [0x6A#8] s (acc (BitVec.ofNat 8 (128 * s.c.toNat + s.a.toNat / 2)) (decide (s.a.toNat % 2 = 1))) ∧
    Runs (.rorZp b1) [0x66#8, b1] s (rmw (BitVec.ofNat 8 (128 * s.c.toNat + (at' (.zp b1)) / 2)) (decide ((at' (.zp b1)) % 2 = 1)) (.zp b1) 2#16) ∧
    Runs (.rorZpX b1) [0x76#8, b1] s (rmw (BitVec.ofNat 8 (128 * s.c.toNat + (at' (.zpX b1)) / 2)) (decide ((at' (.zpX b1)) % 2 = 1)) (.zpX b1) 2#16) ∧
    Runs (.rorAbs (wordOf hi lo)) [0x6E#8, lo, hi] s (rmw (BitVec.ofNat 8 (128 * s.c.toNat + (at' (.abs (wordOf hi lo))) / 2)) (decide ((at' (.abs (wordOf hi lo))) % 2 = 1)) (.abs (wordOf hi lo)) 3#16) ∧
    Runs (.rorAbsX (wordOf hi lo)) [0x7E#8, lo, hi] s (rmw (BitVec.ofNat 8 (128 * s.c.toNat + (at' (.absX (wordOf hi lo))) / 2)) (decide ((at' (.absX (wordOf hi lo))) % 2 = 1)) (.absX (wordOf hi lo)) 3#16)

/-- JMP absolute sets PC to its operand. JMP (ptr) sets PC to the word whose low byte is at ptr and whose high byte is at
ptr + 1 modulo 65536, or in the same page at (low byte of ptr + 1) modulo 256 when JMP_IND_PAGE_WRAP is true. Nothing
else changes. The two settings differ only when the pointer's low byte is 0xFF. The Indirect mode is used by opcode
0x6C only, and resolves to that same address. (R119, R381.) -/
def Obligations.JumpsSetPcOnly : Prop :=
  (∀ (s : State) (lo hi : Byte),
    let ptr := wordOf hi lo
    let high : Nat := if s.cfg.jmpIndPageWrap then hi.toNat * 256 + (lo.toNat + 1) % 256 else (hi.toNat * 256 + lo.toNat + 1) % 65536
    let ea : Word := BitVec.ofNat 16 ((memRead s (BitVec.ofNat 16 high)).toNat * 256 + (memRead s ptr).toNat)
    Runs (.jmpAbs ptr) [0x4C#8, lo, hi] s { s with pc := ptr } ∧
    Runs (.jmpInd ptr) [0x6C#8, lo, hi] s { s with pc := ea } ∧
    resolve .indirect lo hi s = .addr ea false ∧
    (lo ≠ 0xFF#8 → ∀ g : Config, exec (.jmpInd ptr) { s with cfg := g } = .next { s with cfg := g, pc := ea })) ∧
  (∀ i : Instr, modeOf i = .indirect ↔ opcodeOf i = 0x6C#8)

/-- JSR completes with the high and low byte of PC + 2 (modulo 65536) at {0x01, SP} and {0x01, SP - 1}, every other byte
as before, SP two lower and PC its operand. RTS completes with PC one more than the word at {0x01, SP + 1}, {0x01, SP
+ 2} and SP two higher. No flag, no other register and (for RTS) no byte changes. RTS right after JSR returns to the
byte after the JSR's three bytes, with SP as before the JSR. (R382, R383.) -/
def Obligations.CallsAndReturnsUseTheStack : Prop :=
  (∀ (s : State) (lo hi : Byte), ∃ t,
    Runs (.jsr (wordOf hi lo)) [0x20#8, lo, hi] s t ∧
    t = { s with mem := t.mem, sp := s.sp - 2#8, pc := wordOf hi lo } ∧
    ∀ k : Word, (memRead t k).toNat =
      if k.toNat = 0x0100 + s.sp.toNat then (s.pc.toNat + 2) % 65536 / 256
      else if k.toNat = 0x0100 + (s.sp - 1#8).toNat then (s.pc.toNat + 2) % 256
      else (memRead s k).toNat) ∧
  (∀ s : State,
    Runs .rts [0x60#8] s
      { s with
        sp := s.sp + 2#8
        pc := BitVec.ofNat 16 ((pulled s 2).toNat * 256 + (pulled s 1).toNat + 1) }) ∧
  (∀ (s t : State) (target : Word), exec (.jsr target) s = .next t →
    exec .rts t = .next { s with mem := t.mem, pc := s.pc + 3#16 })

/-- RTI loads N, V, B, D, I, Z, C from bits 7, 6, 4, 3, 2, 1, 0 of the byte at {0x01, SP + 1} and PC from the word at
{0x01, SP + 2}, {0x01, SP + 3}; SP is three higher; A, X, Y and memory are unchanged. (R384.) -/
def Obligations.RtiRestoresFlagsAndPc : Prop :=
  ∀ s : State,
    let p := pulled s 1
    Runs .rti [0x40#8] s
      { s with
        n := p.getLsbD 7, v := p.getLsbD 6, b := p.getLsbD 4, d := p.getLsbD 3,
        i := p.getLsbD 2, z := p.getLsbD 1, c := p.getLsbD 0,
        sp := s.sp + 3#8
        pc := BitVec.ofNat 16 ((pulled s 3).toNat * 256 + (pulled s 2).toNat) }

/-- BCC, BCS, BEQ, BNE, BMI, BPL, BVC and BVS test C clear, C set, Z set, Z clear, N set, N clear, V clear, V set. When
the condition holds PC becomes PC + 2 + the displacement read as a number in -128..127, modulo 65536; otherwise PC +
2. No register, flag or byte of memory changes. (R385, R386, R387, R388, R389, R390, R391, R392, R393.) -/
def Obligations.BranchesTestOneFlag : Prop :=
  ∀ (s : State) (d : Byte),
    let goTo (cond : Bool) : State := { s with pc := BitVec.ofInt 16 ((s.pc.toNat : Int) + 2 + (if cond then d.toInt else 0)) }
    Runs (.bcc d) [0x90#8, d] s (goTo (decide (s.c = false))) ∧
    Runs (.bcs d) [0xB0#8, d] s (goTo (decide (s.c = true))) ∧
    Runs (.beq d) [0xF0#8, d] s (goTo (decide (s.z = true))) ∧
    Runs (.bne d) [0xD0#8, d] s (goTo (decide (s.z = false))) ∧
    Runs (.bmi d) [0x30#8, d] s (goTo (decide (s.n = true))) ∧
    Runs (.bpl d) [0x10#8, d] s (goTo (decide (s.n = false))) ∧
    Runs (.bvc d) [0x50#8, d] s (goTo (decide (s.v = false))) ∧
    Runs (.bvs d) [0x70#8, d] s (goTo (decide (s.v = true)))

/-- Each completes from every state: its one flag cleared or set, PC one further modulo 65536, nothing else changed; NOP
changes PC only. (R421, R422, R423, R424, R425, R426, R427, R428.) -/
def Obligations.FlagInstructionsWriteOneFlag : Prop :=
  ∀ s : State,
    let one (t : State) : State := { t with pc := BitVec.ofNat 16 (s.pc.toNat + 1) }
    Runs .clc [0x18#8] s (one { s with c := false }) ∧
    Runs .cld [0xD8#8] s (one { s with d := false }) ∧
    Runs .cli [0x58#8] s (one { s with i := false }) ∧
    Runs .clv [0xB8#8] s (one { s with v := false }) ∧
    Runs .sec [0x38#8] s (one { s with c := true }) ∧
    Runs .sed [0xF8#8] s (one { s with d := true }) ∧
    Runs .sei [0x78#8] s (one { s with i := true }) ∧
    Runs .nop [0xEA#8] s (one s)

/-- BRK completes from every state, whatever I is: the high and low byte of PC + 2 modulo 65536 and the status byte with B
as it was before are at {0x01, SP}, {0x01, SP - 1}, {0x01, SP - 2}; every other byte is as before; SP is three lower;
B = I = 1; PC is the word at 0xFFFE, low byte first; C, Z, D, V, N, A, X, Y are unchanged. (R429.) -/
def Obligations.BrkTakesTheInterruptVector : Prop :=
  ∀ s : State, ∃ t,
    let ret : Nat := (s.pc.toNat + 2) % 65536
    Runs .brk [0x00#8] s t ∧
    t = { s with
      mem := t.mem, sp := s.sp - 3#8, b := true, i := true
      pc := BitVec.ofNat 16 ((memRead s 0xFFFF#16).toNat * 256 + (memRead s 0xFFFE#16).toNat) } ∧
    ∀ k : Word, memRead t k =
      if k.toNat = 0x0100 + s.sp.toNat then BitVec.ofNat 8 (ret / 256)
      else if k.toNat = 0x0100 + (s.sp - 1#8).toNat then BitVec.ofNat 8 ret
      else if k.toNat = 0x0100 + (s.sp - 2#8).toNat then packStatus s
      else memRead s k

/-- NMI() from every state, and IRQ() from every state with I = 0, leave the high and low byte of PC and the status byte
at {0x01, SP}, {0x01, SP - 1}, {0x01, SP - 2} and every other byte as before; SP is three lower, I = 1, PC is the word
at 0xFFFA for NMI and 0xFFFE for IRQ; B, C, Z, D, V, N, A, X, Y are unchanged. IRQ() with I = 1 changes nothing.
(R462, R463, R464.) -/
def Obligations.InterruptEntriesSaveAndVector : Prop :=
  ∀ s : State,
    let ret : Nat := s.pc.toNat
    let entered (vec : Word) (t : State) : Prop :=
      t = { s with
        mem := t.mem, sp := s.sp - 3#8, i := true
        pc := BitVec.ofNat 16 ((memRead s (vec + 1#16)).toNat * 256 + (memRead s vec).toNat) } ∧
      ∀ k : Word, memRead t k =
        if k.toNat = 0x0100 + s.sp.toNat then BitVec.ofNat 8 (ret / 256)
        else if k.toNat = 0x0100 + (s.sp - 1#8).toNat then BitVec.ofNat 8 ret
        else if k.toNat = 0x0100 + (s.sp - 2#8).toNat then packStatus s
        else memRead s k
    entered 0xFFFA#16 (nmiPin s) ∧ (s.i = false → entered 0xFFFE#16 (irqPin s)) ∧ (s.i = true → irqPin s = s)

/-- From every state: RTI after NMI, after a serviced IRQ, and after BRK restores PC (BRK's own address + 2 for BRK), SP,
all seven flags and A, X, Y; only the three stack bytes at {0x01, SP}, {0x01, SP - 1}, {0x01, SP - 2} may differ. RTI
after an NMI taken at the start of the BRK or IRQ handler returns to that handler, whose own RTI then resumes the
program (nesting), and only the six stack bytes from {0x01, SP} down may differ. (R384, R466, R467.) -/
def Obligations.RtiUndoesEveryEntry : Prop :=
  (∀ s : State, exec .rti (nmiPin s) = .next { s with mem := (nmiPin s).mem } ∧
    ∀ k : Word, OutsideSlots 3 s k → memRead (nmiPin s) k = memRead s k) ∧
  (∀ s : State, s.i = false → exec .rti (irqPin s) = .next { s with mem := (irqPin s).mem } ∧
    ∀ k : Word, OutsideSlots 3 s k → memRead (irqPin s) k = memRead s k) ∧
  (∀ s t : State, exec .brk s = .next t → exec .rti t = .next { s with mem := t.mem, pc := s.pc + 2#16 } ∧
    ∀ k : Word, OutsideSlots 3 s k → memRead t k = memRead s k) ∧
  (∀ s t : State, exec .brk s = .next t → ∃ u, exec .rti (nmiPin t) = .next u ∧ u = { t with mem := u.mem } ∧
    exec .rti u = .next { s with mem := u.mem, pc := s.pc + 2#16 } ∧
    ∀ k : Word, OutsideSlots 6 s k → memRead u k = memRead s k) ∧
  (∀ s : State, s.i = false → ∃ u, exec .rti (nmiPin (irqPin s)) = .next u ∧ u = { irqPin s with mem := u.mem } ∧
    exec .rti u = .next { s with mem := u.mem } ∧
    ∀ k : Word, OutsideSlots 6 s k → memRead u k = memRead s k)

/-- RESET() from every state sets SP = 0xFD, I = 1, B = 0 and PC to the word at 0xFFFC, low byte first; A, X, Y, C, Z, D,
V, N and all of memory are unchanged; a second RESET changes nothing more. (R521, R522, R524.) -/
def Obligations.ResetPinSetsFourAndKeepsTheRest : Prop :=
  ∀ s : State,
    resetPin s = { s with
      sp := 0xFD#8, i := true, b := false
      pc := BitVec.ofNat 16 ((memRead s 0xFFFD#16).toNat * 256 + (memRead s 0xFFFC#16).toNat) } ∧
    resetPin (resetPin s) = resetPin s

/-- State.reset is what RESET makes of State.powerOn: SP = 0xFD, I = 1, B = 0, PC the word at 0xFFFC; and RESET makes the
same four values of every power-on state, whatever its draws were. What A, X, Y, the other flags and memory hold at
power-on is the model's choice (log entries 1 and 2) and is not stated here. (R43, R521.) -/
def Obligations.ResetStateIsResetOfPowerOn : Prop :=
  State.reset = resetPin State.powerOn ∧
  (∀ draw : State, (resetPin draw).sp = State.reset.sp ∧ (resetPin draw).i = State.reset.i ∧
    (resetPin draw).b = State.reset.b ∧ State.reset.sp = 0xFD#8 ∧ State.reset.i = true ∧ State.reset.b = false ∧
    (resetPin draw).pc = readWord draw 0xFFFC#16 ∧ State.reset.pc = readWord State.reset 0xFFFC#16)

/-- PINS(S) is RESET() when RESET is in S, else NMI() when NMI is in S, else IRQ(), for every non-empty S; and an IRQ
dropped beside an NMI would find I = 1 after it. (R465.) -/
def Obligations.PinsPriorityResetNmiIrq : Prop :=
  ∀ (s : State) (nmi irq : Bool),
    pins { reset := true, nmi := nmi, irq := irq } s = resetPin s ∧
    pins { reset := false, nmi := true, irq := irq } s = nmiPin s ∧
    pins { reset := false, nmi := false, irq := true } s = irqPin s ∧
    irqPin (nmiPin s) = nmiPin s

/-- Whatever the state and whatever list of bytes the host writes first, writing an address to 0xFFFC and 0xFFFD and
calling RESET leaves PC at that address with SP = 0xFD, I = 1, B = 0; A, X, Y and the other flags are as they were;
0xFFFC and 0xFFFD hold the address, low byte first, and every other address holds the byte the list writes to it last,
or what it held before where the list does not write it. (R523, R525, R526.) -/
def Obligations.BootReachesTheChosenAddress : Prop :=
  ∀ (s : State) (writes : List (Word × Byte)) (start : Word),
    let t := boot (writes ++ [(0xFFFC#16, lowByte start), (0xFFFD#16, highByte start)]) s
    t = { s with mem := t.mem, pc := start, sp := 0xFD#8, i := true, b := false } ∧
    (memRead t 0xFFFC#16).toNat = start.toNat % 256 ∧ (memRead t 0xFFFD#16).toNat = start.toNat / 256 ∧
    ∀ k : Word, k ≠ 0xFFFC#16 → k ≠ 0xFFFD#16 → memRead t k = ((lastWrite writes k).getD (memRead s k))

/-- The run here is Host.Core.run: steps, with no pin call and no host write between them. That is the model's choice (log
entry 6); the run of R530 may have them. Such a run within a bound ends at t exactly when t is reached by a completed
step within the bound, t has B = 1, and no earlier completed step reached a state with B = 1; a run reported as
faulted is one whose step faulted. (R530.) -/
def Obligations.RunEndsAtFirstBreak : Prop :=
  ∀ (n : Nat) (s : State),
    (∀ t : State, Safety.runToEnd n s = .ended t ↔
      ∃ k, k < n ∧ Host.Core.run Sys2Proof.core (k + 1) s = .next t ∧ t.b = true ∧
        ∀ j, j < k → ∀ u : State, Host.Core.run Sys2Proof.core (j + 1) s = .next u → u.b = false) ∧
    (∀ f : Fault, Safety.runToEnd n s = .faulted f → ∃ k, k < n ∧ Host.Core.run Sys2Proof.core (k + 1) s = .fault f)

/-- Every form of every instruction takes the cycles its row of the table of R531 gives: 2, 3, 4, 5, 6 or 7 whatever the
state; 4 or 5 plus 1 when the indexed address leaves the page of its base (one star); a branch 2, plus 1 when its flag
condition holds, plus 1 more when it holds and the target's page differs from that of PC + 2 (two stars). Every count
is between 2 and 7, and it is the count that the step result carries. (R531, R117, R118, R121, R122, R385.) -/
def Obligations.CycleCountsFollowTheTable : Prop :=
  ∀ (s : State) (b1 lo hi : Byte),
    let addr : Word := wordOf hi lo
    let base : Nat := hi.toNat * 256 + lo.toNat
    let zp (p : Nat) : Byte := memRead s (BitVec.ofNat 16 (p % 256))
    let pointer : Nat := (zp (b1.toNat + 1)).toNat * 256 + (zp b1.toNat).toNat
    let crossing (from' index : Nat) : Nat := if from' / 256 ≠ (from' + index) % 65536 / 256 then 1 else 0
    let after : Nat := (s.pc.toNat + 2) % 65536
    let target : Int := ((s.pc.toNat : Int) + 2 + b1.toInt) % 65536
    let taken (condition : Bool) : Nat := if condition then (if (after : Int) / 256 ≠ target / 256 then 2 else 1) else 0
    (∀ i ∈ ([.ldaImm b1, .ldxImm b1, .ldyImm b1, .tax, .tay, .txa, .tya, .tsx, .txs, .adcImm b1, .sbcImm b1, .cmpImm b1,
      .cpxImm b1, .cpyImm b1, .inx, .iny, .dex, .dey, .andImm b1, .oraImm b1, .eorImm b1, .aslAcc, .lsrAcc, .rolAcc,
      .rorAcc, .clc, .cld, .cli, .clv, .sec, .sed, .sei, .nop] : List Instr),
      cycles i s = 2) ∧
    (∀ i ∈ ([.ldaZp b1, .ldxZp b1, .ldyZp b1, .staZp b1, .stxZp b1, .styZp b1, .pha, .php, .adcZp b1, .sbcZp b1, .cmpZp b1,
      .cpxZp b1, .cpyZp b1, .andZp b1, .oraZp b1, .eorZp b1, .bitZp b1, .jmpAbs addr] : List Instr),
      cycles i s = 3) ∧
    (∀ i ∈ ([.ldaZpX b1, .ldaAbs addr, .ldxZpY b1, .ldxAbs addr, .ldyZpX b1, .ldyAbs addr, .staZpX b1, .staAbs addr,
      .stxZpY b1, .stxAbs addr, .styZpX b1, .styAbs addr, .pla, .plp, .adcZpX b1, .adcAbs addr, .sbcZpX b1,
      .sbcAbs addr, .cmpZpX b1, .cmpAbs addr, .cpxAbs addr, .cpyAbs addr, .andZpX b1, .andAbs addr, .oraZpX b1,
      .oraAbs addr, .eorZpX b1, .eorAbs addr, .bitAbs addr] : List Instr),
      cycles i s = 4) ∧
    (∀ i ∈ ([.staAbsX addr, .staAbsY addr, .incZp b1, .decZp b1, .aslZp b1, .lsrZp b1, .rolZp b1, .rorZp b1, .jmpInd addr] : List Instr),
      cycles i s = 5) ∧
    (∀ i ∈ ([.ldaIndX b1, .staIndX b1, .staIndY b1, .adcIndX b1, .sbcIndX b1, .cmpIndX b1, .incZpX b1, .incAbs addr,
      .decZpX b1, .decAbs addr, .andIndX b1, .oraIndX b1, .eorIndX b1, .aslZpX b1, .aslAbs addr, .lsrZpX b1,
      .lsrAbs addr, .rolZpX b1, .rolAbs addr, .rorZpX b1, .rorAbs addr, .jsr addr, .rts, .rti] : List Instr),
      cycles i s = 6) ∧
    (∀ i ∈ ([.incAbsX addr, .decAbsX addr, .aslAbsX addr, .lsrAbsX addr, .rolAbsX addr, .rorAbsX addr, .brk] : List Instr),
      cycles i s = 7) ∧
    (∀ i ∈ ([.ldaAbsX addr, .ldyAbsX addr, .adcAbsX addr, .sbcAbsX addr, .cmpAbsX addr, .andAbsX addr, .oraAbsX addr,
      .eorAbsX addr] : List Instr),
      cycles i s = 4 + crossing base s.x.toNat) ∧
    (∀ i ∈ ([.ldaAbsY addr, .ldxAbsY addr, .adcAbsY addr, .sbcAbsY addr, .cmpAbsY addr, .andAbsY addr, .oraAbsY addr,
      .eorAbsY addr] : List Instr),
      cycles i s = 4 + crossing base s.y.toNat) ∧
    (∀ i ∈ ([.ldaIndY b1, .adcIndY b1, .sbcIndY b1, .cmpIndY b1, .andIndY b1, .oraIndY b1, .eorIndY b1] : List Instr),
      cycles i s = 5 + crossing pointer s.y.toNat) ∧
    cycles (.bcc b1) s = 2 + taken (decide (s.c = false)) ∧
    cycles (.bcs b1) s = 2 + taken (decide (s.c = true)) ∧
    cycles (.beq b1) s = 2 + taken (decide (s.z = true)) ∧
    cycles (.bne b1) s = 2 + taken (decide (s.z = false)) ∧
    cycles (.bmi b1) s = 2 + taken (decide (s.n = true)) ∧
    cycles (.bpl b1) s = 2 + taken (decide (s.n = false)) ∧
    cycles (.bvc b1) s = 2 + taken (decide (s.v = false)) ∧
    cycles (.bvs b1) s = 2 + taken (decide (s.v = true)) ∧
    (∀ i : Instr, 2 ≤ cycles i s ∧ cycles i s ≤ 7 ∧ (fetchInstr s = some i → stepResult s = .executed (cycles i s)))

/-- When the distance from the branch's address + 2 to the target lies in -128..127, the encoded displacement resolves to
the target; when it does not, there is no encoding. (R122, R134.) -/
def Obligations.AssembledBranchReachesItsTarget : Prop :=
  ∀ (s : State) (target : Word),
    (∀ d : Byte, branchDisplacement s.pc target = some d ↔ relativeTarget d s = target) ∧
    (branchDisplacement s.pc target = none ↔ ∀ d : Byte, relativeTarget d s ≠ target)
end

