-- ==== Sys2Proof/Laws/State.lean ====
section
/-! SUPPORT. What each small update of the state leaves and writes, one lemma per field: no later proof unfolds a record
update. Also: reading memory depends on the memory alone, and the reset state is RESET applied to power-on. -/

namespace Sys2Proof.Laws

open Sys2Proof.Machine

/-! ### `setZN` -/

@[simp] theorem setZN_a (v : Byte) (s : State) : (setZN v s).a = s.a := rfl
@[simp] theorem setZN_x (v : Byte) (s : State) : (setZN v s).x = s.x := rfl
@[simp] theorem setZN_y (v : Byte) (s : State) : (setZN v s).y = s.y := rfl
@[simp] theorem setZN_sp (v : Byte) (s : State) : (setZN v s).sp = s.sp := rfl
@[simp] theorem setZN_pc (v : Byte) (s : State) : (setZN v s).pc = s.pc := rfl
@[simp] theorem setZN_c (v : Byte) (s : State) : (setZN v s).c = s.c := rfl
@[simp] theorem setZN_z (v : Byte) (s : State) : (setZN v s).z = (v == 0#8) := rfl
@[simp] theorem setZN_i (v : Byte) (s : State) : (setZN v s).i = s.i := rfl
@[simp] theorem setZN_d (v : Byte) (s : State) : (setZN v s).d = s.d := rfl
@[simp] theorem setZN_b (v : Byte) (s : State) : (setZN v s).b = s.b := rfl
@[simp] theorem setZN_v (v : Byte) (s : State) : (setZN v s).v = s.v := rfl
@[simp] theorem setZN_n (v : Byte) (s : State) : (setZN v s).n = bitAt v 7 := rfl
@[simp] theorem setZN_mem (v : Byte) (s : State) : (setZN v s).mem = s.mem := rfl
@[simp] theorem setZN_cfg (v : Byte) (s : State) : (setZN v s).cfg = s.cfg := rfl

/-! ### `setStatus` -/

@[simp] theorem setStatus_a (p : Byte) (s : State) : (setStatus p s).a = s.a := rfl
@[simp] theorem setStatus_x (p : Byte) (s : State) : (setStatus p s).x = s.x := rfl
@[simp] theorem setStatus_y (p : Byte) (s : State) : (setStatus p s).y = s.y := rfl
@[simp] theorem setStatus_sp (p : Byte) (s : State) : (setStatus p s).sp = s.sp := rfl
@[simp] theorem setStatus_pc (p : Byte) (s : State) : (setStatus p s).pc = s.pc := rfl
@[simp] theorem setStatus_c (p : Byte) (s : State) : (setStatus p s).c = bitAt p 0 := rfl
@[simp] theorem setStatus_z (p : Byte) (s : State) : (setStatus p s).z = bitAt p 1 := rfl
@[simp] theorem setStatus_i (p : Byte) (s : State) : (setStatus p s).i = bitAt p 2 := rfl
@[simp] theorem setStatus_d (p : Byte) (s : State) : (setStatus p s).d = bitAt p 3 := rfl
@[simp] theorem setStatus_b (p : Byte) (s : State) : (setStatus p s).b = bitAt p 4 := rfl
@[simp] theorem setStatus_v (p : Byte) (s : State) : (setStatus p s).v = bitAt p 6 := rfl
@[simp] theorem setStatus_n (p : Byte) (s : State) : (setStatus p s).n = bitAt p 7 := rfl
@[simp] theorem setStatus_mem (p : Byte) (s : State) : (setStatus p s).mem = s.mem := rfl
@[simp] theorem setStatus_cfg (p : Byte) (s : State) : (setStatus p s).cfg = s.cfg := rfl

/-! ### `memWrite` -/

@[simp] theorem memWrite_a (s : State) (addr : Word) (v : Byte) : (memWrite s addr v).a = s.a := rfl
@[simp] theorem memWrite_x (s : State) (addr : Word) (v : Byte) : (memWrite s addr v).x = s.x := rfl
@[simp] theorem memWrite_y (s : State) (addr : Word) (v : Byte) : (memWrite s addr v).y = s.y := rfl
@[simp] theorem memWrite_sp (s : State) (addr : Word) (v : Byte) : (memWrite s addr v).sp = s.sp := rfl
@[simp] theorem memWrite_pc (s : State) (addr : Word) (v : Byte) : (memWrite s addr v).pc = s.pc := rfl
@[simp] theorem memWrite_c (s : State) (addr : Word) (v : Byte) : (memWrite s addr v).c = s.c := rfl
@[simp] theorem memWrite_z (s : State) (addr : Word) (v : Byte) : (memWrite s addr v).z = s.z := rfl
@[simp] theorem memWrite_i (s : State) (addr : Word) (v : Byte) : (memWrite s addr v).i = s.i := rfl
@[simp] theorem memWrite_d (s : State) (addr : Word) (v : Byte) : (memWrite s addr v).d = s.d := rfl
@[simp] theorem memWrite_b (s : State) (addr : Word) (v : Byte) : (memWrite s addr v).b = s.b := rfl
@[simp] theorem memWrite_v (s : State) (addr : Word) (v : Byte) : (memWrite s addr v).v = s.v := rfl
@[simp] theorem memWrite_n (s : State) (addr : Word) (v : Byte) : (memWrite s addr v).n = s.n := rfl
@[simp] theorem memWrite_mem (s : State) (addr : Word) (v : Byte) : (memWrite s addr v).mem = Memory.write s.mem addr v := rfl
@[simp] theorem memWrite_cfg (s : State) (addr : Word) (v : Byte) : (memWrite s addr v).cfg = s.cfg := rfl

/-! ### `advance` -/

@[simp] theorem advance_a (len : Word) (s : State) : (advance len s).a = s.a := rfl
@[simp] theorem advance_x (len : Word) (s : State) : (advance len s).x = s.x := rfl
@[simp] theorem advance_y (len : Word) (s : State) : (advance len s).y = s.y := rfl
@[simp] theorem advance_sp (len : Word) (s : State) : (advance len s).sp = s.sp := rfl
@[simp] theorem advance_pc (len : Word) (s : State) : (advance len s).pc = s.pc + len := rfl
@[simp] theorem advance_c (len : Word) (s : State) : (advance len s).c = s.c := rfl
@[simp] theorem advance_z (len : Word) (s : State) : (advance len s).z = s.z := rfl
@[simp] theorem advance_i (len : Word) (s : State) : (advance len s).i = s.i := rfl
@[simp] theorem advance_d (len : Word) (s : State) : (advance len s).d = s.d := rfl
@[simp] theorem advance_b (len : Word) (s : State) : (advance len s).b = s.b := rfl
@[simp] theorem advance_v (len : Word) (s : State) : (advance len s).v = s.v := rfl
@[simp] theorem advance_n (len : Word) (s : State) : (advance len s).n = s.n := rfl
@[simp] theorem advance_mem (len : Word) (s : State) : (advance len s).mem = s.mem := rfl
@[simp] theorem advance_cfg (len : Word) (s : State) : (advance len s).cfg = s.cfg := rfl

/-! ### `jumpTo` -/

@[simp] theorem jumpTo_a (target : Word) (s : State) : (jumpTo target s).a = s.a := rfl
@[simp] theorem jumpTo_x (target : Word) (s : State) : (jumpTo target s).x = s.x := rfl
@[simp] theorem jumpTo_y (target : Word) (s : State) : (jumpTo target s).y = s.y := rfl
@[simp] theorem jumpTo_sp (target : Word) (s : State) : (jumpTo target s).sp = s.sp := rfl
@[simp] theorem jumpTo_pc (target : Word) (s : State) : (jumpTo target s).pc = target := rfl
@[simp] theorem jumpTo_c (target : Word) (s : State) : (jumpTo target s).c = s.c := rfl
@[simp] theorem jumpTo_z (target : Word) (s : State) : (jumpTo target s).z = s.z := rfl
@[simp] theorem jumpTo_i (target : Word) (s : State) : (jumpTo target s).i = s.i := rfl
@[simp] theorem jumpTo_d (target : Word) (s : State) : (jumpTo target s).d = s.d := rfl
@[simp] theorem jumpTo_b (target : Word) (s : State) : (jumpTo target s).b = s.b := rfl
@[simp] theorem jumpTo_v (target : Word) (s : State) : (jumpTo target s).v = s.v := rfl
@[simp] theorem jumpTo_n (target : Word) (s : State) : (jumpTo target s).n = s.n := rfl
@[simp] theorem jumpTo_mem (target : Word) (s : State) : (jumpTo target s).mem = s.mem := rfl
@[simp] theorem jumpTo_cfg (target : Word) (s : State) : (jumpTo target s).cfg = s.cfg := rfl

/-! ### `pushByte` -/

@[simp] theorem pushByte_a (v : Byte) (s : State) : (pushByte v s).a = s.a := rfl
@[simp] theorem pushByte_x (v : Byte) (s : State) : (pushByte v s).x = s.x := rfl
@[simp] theorem pushByte_y (v : Byte) (s : State) : (pushByte v s).y = s.y := rfl
@[simp] theorem pushByte_sp (v : Byte) (s : State) : (pushByte v s).sp = s.sp - 1#8 := rfl
@[simp] theorem pushByte_pc (v : Byte) (s : State) : (pushByte v s).pc = s.pc := rfl
@[simp] theorem pushByte_c (v : Byte) (s : State) : (pushByte v s).c = s.c := rfl
@[simp] theorem pushByte_z (v : Byte) (s : State) : (pushByte v s).z = s.z := rfl
@[simp] theorem pushByte_i (v : Byte) (s : State) : (pushByte v s).i = s.i := rfl
@[simp] theorem pushByte_d (v : Byte) (s : State) : (pushByte v s).d = s.d := rfl
@[simp] theorem pushByte_b (v : Byte) (s : State) : (pushByte v s).b = s.b := rfl
@[simp] theorem pushByte_v (v : Byte) (s : State) : (pushByte v s).v = s.v := rfl
@[simp] theorem pushByte_n (v : Byte) (s : State) : (pushByte v s).n = s.n := rfl
@[simp] theorem pushByte_mem (v : Byte) (s : State) : (pushByte v s).mem = Memory.write s.mem (stackAddress s.sp) v := rfl
@[simp] theorem pushByte_cfg (v : Byte) (s : State) : (pushByte v s).cfg = s.cfg := rfl

/-! ### `popByte_snd` -/

@[simp] theorem popByte_snd_a (s : State) : ((popByte s).2).a = s.a := rfl
@[simp] theorem popByte_snd_x (s : State) : ((popByte s).2).x = s.x := rfl
@[simp] theorem popByte_snd_y (s : State) : ((popByte s).2).y = s.y := rfl
@[simp] theorem popByte_snd_sp (s : State) : ((popByte s).2).sp = s.sp + 1#8 := rfl
@[simp] theorem popByte_snd_pc (s : State) : ((popByte s).2).pc = s.pc := rfl
@[simp] theorem popByte_snd_c (s : State) : ((popByte s).2).c = s.c := rfl
@[simp] theorem popByte_snd_z (s : State) : ((popByte s).2).z = s.z := rfl
@[simp] theorem popByte_snd_i (s : State) : ((popByte s).2).i = s.i := rfl
@[simp] theorem popByte_snd_d (s : State) : ((popByte s).2).d = s.d := rfl
@[simp] theorem popByte_snd_b (s : State) : ((popByte s).2).b = s.b := rfl
@[simp] theorem popByte_snd_v (s : State) : ((popByte s).2).v = s.v := rfl
@[simp] theorem popByte_snd_n (s : State) : ((popByte s).2).n = s.n := rfl
@[simp] theorem popByte_snd_mem (s : State) : ((popByte s).2).mem = s.mem := rfl
@[simp] theorem popByte_snd_cfg (s : State) : ((popByte s).2).cfg = s.cfg := rfl

/-! ### `loadA` -/

@[simp] theorem loadA_a (m : Byte) (s : State) : (loadA m s).a = m := rfl
@[simp] theorem loadA_x (m : Byte) (s : State) : (loadA m s).x = s.x := rfl
@[simp] theorem loadA_y (m : Byte) (s : State) : (loadA m s).y = s.y := rfl
@[simp] theorem loadA_sp (m : Byte) (s : State) : (loadA m s).sp = s.sp := rfl
@[simp] theorem loadA_pc (m : Byte) (s : State) : (loadA m s).pc = s.pc := rfl
@[simp] theorem loadA_c (m : Byte) (s : State) : (loadA m s).c = s.c := rfl
@[simp] theorem loadA_z (m : Byte) (s : State) : (loadA m s).z = (m == 0#8) := rfl
@[simp] theorem loadA_i (m : Byte) (s : State) : (loadA m s).i = s.i := rfl
@[simp] theorem loadA_d (m : Byte) (s : State) : (loadA m s).d = s.d := rfl
@[simp] theorem loadA_b (m : Byte) (s : State) : (loadA m s).b = s.b := rfl
@[simp] theorem loadA_v (m : Byte) (s : State) : (loadA m s).v = s.v := rfl
@[simp] theorem loadA_n (m : Byte) (s : State) : (loadA m s).n = bitAt m 7 := rfl
@[simp] theorem loadA_mem (m : Byte) (s : State) : (loadA m s).mem = s.mem := rfl
@[simp] theorem loadA_cfg (m : Byte) (s : State) : (loadA m s).cfg = s.cfg := rfl

/-! ### `loadX` -/

@[simp] theorem loadX_a (m : Byte) (s : State) : (loadX m s).a = s.a := rfl
@[simp] theorem loadX_x (m : Byte) (s : State) : (loadX m s).x = m := rfl
@[simp] theorem loadX_y (m : Byte) (s : State) : (loadX m s).y = s.y := rfl
@[simp] theorem loadX_sp (m : Byte) (s : State) : (loadX m s).sp = s.sp := rfl
@[simp] theorem loadX_pc (m : Byte) (s : State) : (loadX m s).pc = s.pc := rfl
@[simp] theorem loadX_c (m : Byte) (s : State) : (loadX m s).c = s.c := rfl
@[simp] theorem loadX_z (m : Byte) (s : State) : (loadX m s).z = (m == 0#8) := rfl
@[simp] theorem loadX_i (m : Byte) (s : State) : (loadX m s).i = s.i := rfl
@[simp] theorem loadX_d (m : Byte) (s : State) : (loadX m s).d = s.d := rfl
@[simp] theorem loadX_b (m : Byte) (s : State) : (loadX m s).b = s.b := rfl
@[simp] theorem loadX_v (m : Byte) (s : State) : (loadX m s).v = s.v := rfl
@[simp] theorem loadX_n (m : Byte) (s : State) : (loadX m s).n = bitAt m 7 := rfl
@[simp] theorem loadX_mem (m : Byte) (s : State) : (loadX m s).mem = s.mem := rfl
@[simp] theorem loadX_cfg (m : Byte) (s : State) : (loadX m s).cfg = s.cfg := rfl

/-! ### `loadY` -/

@[simp] theorem loadY_a (m : Byte) (s : State) : (loadY m s).a = s.a := rfl
@[simp] theorem loadY_x (m : Byte) (s : State) : (loadY m s).x = s.x := rfl
@[simp] theorem loadY_y (m : Byte) (s : State) : (loadY m s).y = m := rfl
@[simp] theorem loadY_sp (m : Byte) (s : State) : (loadY m s).sp = s.sp := rfl
@[simp] theorem loadY_pc (m : Byte) (s : State) : (loadY m s).pc = s.pc := rfl
@[simp] theorem loadY_c (m : Byte) (s : State) : (loadY m s).c = s.c := rfl
@[simp] theorem loadY_z (m : Byte) (s : State) : (loadY m s).z = (m == 0#8) := rfl
@[simp] theorem loadY_i (m : Byte) (s : State) : (loadY m s).i = s.i := rfl
@[simp] theorem loadY_d (m : Byte) (s : State) : (loadY m s).d = s.d := rfl
@[simp] theorem loadY_b (m : Byte) (s : State) : (loadY m s).b = s.b := rfl
@[simp] theorem loadY_v (m : Byte) (s : State) : (loadY m s).v = s.v := rfl
@[simp] theorem loadY_n (m : Byte) (s : State) : (loadY m s).n = bitAt m 7 := rfl
@[simp] theorem loadY_mem (m : Byte) (s : State) : (loadY m s).mem = s.mem := rfl
@[simp] theorem loadY_cfg (m : Byte) (s : State) : (loadY m s).cfg = s.cfg := rfl

/-! ### `compareWith` -/

@[simp] theorem compareWith_a (r m : Byte) (s : State) : (compareWith r m s).a = s.a := rfl
@[simp] theorem compareWith_x (r m : Byte) (s : State) : (compareWith r m s).x = s.x := rfl
@[simp] theorem compareWith_y (r m : Byte) (s : State) : (compareWith r m s).y = s.y := rfl
@[simp] theorem compareWith_sp (r m : Byte) (s : State) : (compareWith r m s).sp = s.sp := rfl
@[simp] theorem compareWith_pc (r m : Byte) (s : State) : (compareWith r m s).pc = s.pc := rfl
@[simp] theorem compareWith_c (r m : Byte) (s : State) : (compareWith r m s).c = decide (m.toNat ≤ r.toNat) := rfl
@[simp] theorem compareWith_z (r m : Byte) (s : State) : (compareWith r m s).z = (r - m == 0#8) := rfl
@[simp] theorem compareWith_i (r m : Byte) (s : State) : (compareWith r m s).i = s.i := rfl
@[simp] theorem compareWith_d (r m : Byte) (s : State) : (compareWith r m s).d = s.d := rfl
@[simp] theorem compareWith_b (r m : Byte) (s : State) : (compareWith r m s).b = s.b := rfl
@[simp] theorem compareWith_v (r m : Byte) (s : State) : (compareWith r m s).v = s.v := rfl
@[simp] theorem compareWith_n (r m : Byte) (s : State) : (compareWith r m s).n = bitAt (r - m) 7 := rfl
@[simp] theorem compareWith_mem (r m : Byte) (s : State) : (compareWith r m s).mem = s.mem := rfl
@[simp] theorem compareWith_cfg (r m : Byte) (s : State) : (compareWith r m s).cfg = s.cfg := rfl

/-! ### `bitTest` -/

@[simp] theorem bitTest_a (m : Byte) (s : State) : (bitTest m s).a = s.a := rfl
@[simp] theorem bitTest_x (m : Byte) (s : State) : (bitTest m s).x = s.x := rfl
@[simp] theorem bitTest_y (m : Byte) (s : State) : (bitTest m s).y = s.y := rfl
@[simp] theorem bitTest_sp (m : Byte) (s : State) : (bitTest m s).sp = s.sp := rfl
@[simp] theorem bitTest_pc (m : Byte) (s : State) : (bitTest m s).pc = s.pc := rfl
@[simp] theorem bitTest_c (m : Byte) (s : State) : (bitTest m s).c = s.c := rfl
@[simp] theorem bitTest_z (m : Byte) (s : State) : (bitTest m s).z = (s.a &&& m == 0#8) := rfl
@[simp] theorem bitTest_i (m : Byte) (s : State) : (bitTest m s).i = s.i := rfl
@[simp] theorem bitTest_d (m : Byte) (s : State) : (bitTest m s).d = s.d := rfl
@[simp] theorem bitTest_b (m : Byte) (s : State) : (bitTest m s).b = s.b := rfl
@[simp] theorem bitTest_v (m : Byte) (s : State) : (bitTest m s).v = bitAt m 6 := rfl
@[simp] theorem bitTest_n (m : Byte) (s : State) : (bitTest m s).n = bitAt m 7 := rfl
@[simp] theorem bitTest_mem (m : Byte) (s : State) : (bitTest m s).mem = s.mem := rfl
@[simp] theorem bitTest_cfg (m : Byte) (s : State) : (bitTest m s).cfg = s.cfg := rfl

/-! ### `resetPin` -/

@[simp] theorem resetPin_a (s : State) : (resetPin s).a = s.a := rfl
@[simp] theorem resetPin_x (s : State) : (resetPin s).x = s.x := rfl
@[simp] theorem resetPin_y (s : State) : (resetPin s).y = s.y := rfl
@[simp] theorem resetPin_sp (s : State) : (resetPin s).sp = resetSp := rfl
@[simp] theorem resetPin_pc (s : State) : (resetPin s).pc = readWord s resetVector := rfl
@[simp] theorem resetPin_c (s : State) : (resetPin s).c = s.c := rfl
@[simp] theorem resetPin_z (s : State) : (resetPin s).z = s.z := rfl
@[simp] theorem resetPin_i (s : State) : (resetPin s).i = true := rfl
@[simp] theorem resetPin_d (s : State) : (resetPin s).d = s.d := rfl
@[simp] theorem resetPin_b (s : State) : (resetPin s).b = false := rfl
@[simp] theorem resetPin_v (s : State) : (resetPin s).v = s.v := rfl
@[simp] theorem resetPin_n (s : State) : (resetPin s).n = s.n := rfl
@[simp] theorem resetPin_mem (s : State) : (resetPin s).mem = s.mem := rfl
@[simp] theorem resetPin_cfg (s : State) : (resetPin s).cfg = s.cfg := rfl

/-! ### Reads -/

/-- A read looks at the memory and nothing else. -/
theorem memRead_congr (s t : State) (addr : Word) (h : s.mem = t.mem) : memRead s addr = memRead t addr := by
  unfold memRead; rw [h]

theorem readWord_congr (s t : State) (addr : Word) (h : s.mem = t.mem) : readWord s addr = readWord t addr := by
  unfold readWord; rw [memRead_congr s t _ h, memRead_congr s t _ h]

theorem readWordZP_congr (s t : State) (p : Byte) (h : s.mem = t.mem) : readWordZP s p = readWordZP t p := by
  unfold readWordZP; rw [memRead_congr s t _ h, memRead_congr s t _ h]

@[simp] theorem popByte_fst (s : State) : (popByte s).1 = memRead s (stackAddress (s.sp + 1#8)) := rfl

/-- The reset state is the RESET transaction applied to the power-on state (R521, R522). -/
theorem reset_is_resetPin : State.reset = resetPin State.powerOn := by decide

end Sys2Proof.Laws
end

