-- ==== Sys2Proof/Laws/Memory.lean ====
section
/-! SUPPORT. The memory: read after write, the canonical form kept by every operation, and one memory for one contents. -/

namespace Sys2Proof.Laws

open Sys2Proof.Machine

/-- Looking up in a memory with a first cell. -/
theorem lookup_cell (k : Nat) (p : Host.Cell) (m : Memory) :
    List.lookup k (p :: m) = if k = p.1 then some p.2 else m.lookup k := by
  obtain ⟨key, v⟩ := p
  rw [List.lookup_cons]
  by_cases h : k = key
  · simp [h]
  · simp [h, beq_false_of_ne h]

/-- Looking up in a memory without the cells of `key` finds what the memory itself holds elsewhere, and nothing at `key`. -/
theorem lookup_filter_ne (m : Memory) (key k : Nat) :
    (m.filter (fun p => p.1 != key)).lookup k = if k = key then none else m.lookup k := by
  induction m with
  | nil => simp
  | cons p rest ih =>
    rw [lookup_cell, List.filter_cons]
    by_cases hp : p.1 = key
    · simp only [hp, bne_self_eq_false, Bool.false_eq_true, ↓reduceIte, ih]
      split <;> rfl
    · simp only [bne_iff_ne, ne_eq, hp, not_false_eq_true, ↓reduceIte, lookup_cell, ih]
      by_cases hk : k = key
      · subst hk
        simp [Ne.symm hp]
      · simp [hk]

/-- Looking up after `insertCell`, when the address was not listed. -/
theorem lookup_insertCell (cell : Host.Cell) (m : Memory) (k : Nat) (h : m.lookup cell.1 = none) :
    (Memory.insertCell cell m).lookup k = if k = cell.1 then some cell.2 else m.lookup k := by
  induction m with
  | nil => rw [Memory.insertCell, lookup_cell]
  | cons p rest ih =>
    rw [lookup_cell] at h
    have hne : cell.1 ≠ p.1 := fun e => by simp [e] at h
    rw [if_neg hne] at h
    unfold Memory.insertCell
    split
    · rw [lookup_cell]
    · rw [lookup_cell, ih h, lookup_cell]
      by_cases hk : k = cell.1
      · simp [hk, hne]
      · simp [hk]

/-- READ AFTER WRITE (R63): the value written at its address, and every other address as before. It holds of every list of
cells, canonical or not. -/
theorem Memory_read_write (m : Memory) (addr k : Word) (v : Byte) :
    Memory.read (Memory.write m addr v) k = if k = addr then v else Memory.read m k := by
  have inj : k.toNat = addr.toNat ↔ k = addr := BitVec.toNat_inj
  have gone : (m.filter (fun p => p.1 != addr.toNat)).lookup addr.toNat = none := by
    simp [lookup_filter_ne]
  unfold Memory.read Memory.write
  by_cases hv : v = unlistedByte
  · by_cases hk : k = addr <;> simp [hv, hk, lookup_filter_ne, inj]
  · simp only [hv, ↓reduceIte]
    rw [lookup_insertCell _ _ _ gone, lookup_filter_ne]
    by_cases hk : k = addr <;> simp [hk, inj]

@[simp] theorem memRead_memWrite (s : State) (addr k : Word) (v : Byte) :
    memRead (memWrite s addr v) k = if k = addr then v else memRead s k :=
  Memory_read_write s.mem addr k v

theorem memRead_memWrite_same (s : State) (addr : Word) (v : Byte) : memRead (memWrite s addr v) addr = v := by simp

theorem memRead_memWrite_other (s : State) (addr k : Word) (v : Byte) (h : k ≠ addr) :
    memRead (memWrite s addr v) k = memRead s k := by simp [h]

/-- The cells of an insertion are the new one and the old ones. -/
theorem mem_insertCell (cell p : Host.Cell) (m : Memory) : p ∈ Memory.insertCell cell m ↔ p = cell ∨ p ∈ m := by
  induction m with
  | nil => simp [Memory.insertCell]
  | cons q rest ih =>
    unfold Memory.insertCell
    by_cases h : cell.1 < q.1
    · simp [h]
    · simp only [h, ↓reduceIte, List.mem_cons, ih]
      tauto

theorem insertCell_pairwise (cell : Host.Cell) (m : Memory) (hm : m.Pairwise (fun p q => p.1 < q.1))
    (hne : ∀ p ∈ m, p.1 ≠ cell.1) : (Memory.insertCell cell m).Pairwise (fun p q => p.1 < q.1) := by
  induction m with
  | nil => simp [Memory.insertCell]
  | cons q rest ih =>
    rw [List.pairwise_cons] at hm
    unfold Memory.insertCell
    by_cases h : cell.1 < q.1
    · simp only [h, ↓reduceIte, List.pairwise_cons, List.mem_cons, forall_eq_or_imp, true_and]
      exact ⟨fun p hp => Nat.lt_trans h (hm.1 p hp), hm⟩
    · simp only [h, ↓reduceIte, List.pairwise_cons]
      refine ⟨fun p hp => ?_, ih hm.2 (fun p hp => hne p (List.mem_cons_of_mem _ hp))⟩
      rcases (mem_insertCell cell p rest).mp hp with rfl | hp
      · have := hne q (List.mem_cons_self ..)
        omega
      · exact hm.1 p hp

/-- Every memory operation keeps the canonical form: the one operation that changes memory is a write. -/
theorem Memory_write_wf (m : Memory) (addr : Word) (v : Byte) (h : Memory.wf m) : Memory.wf (Memory.write m addr v) := by
  have hf : Memory.wf (m.filter (fun p => p.1 != addr.toNat)) :=
    ⟨h.1.sublist List.filter_sublist, fun p hp => h.2 p (List.mem_of_mem_filter hp)⟩
  unfold Memory.write
  by_cases hv : v = unlistedByte
  · simpa [hv] using hf
  · simp only [hv, ↓reduceIte]
    refine ⟨insertCell_pairwise _ _ hf.1 (fun p hp => by simpa using (List.mem_filter.mp hp).2), fun p hp => ?_⟩
    rcases (mem_insertCell _ _ _).mp hp with rfl | hp
    · exact ⟨addr.isLt, hv⟩
    · exact hf.2 p hp

theorem memWrite_inv (s : State) (addr : Word) (v : Byte) (h : Safety.Inv s) : Safety.Inv (memWrite s addr v) :=
  Memory_write_wf s.mem addr v h

theorem reset_inv : Safety.Inv State.reset := by decide

/-- In a memory whose addresses rise, a listed cell is what its address looks up to. -/
theorem lookup_of_mem (m : Memory) (hm : m.Pairwise (fun p q => p.1 < q.1)) (p : Host.Cell) (hp : p ∈ m) :
    m.lookup p.1 = some p.2 := by
  induction m with
  | nil => simp at hp
  | cons q rest ih =>
    rw [List.pairwise_cons] at hm
    rw [lookup_cell]
    rcases List.mem_cons.mp hp with rfl | hp
    · simp
    · rw [if_neg (by have := hm.1 p hp; omega), ih hm.2 hp]

end Sys2Proof.Laws
end

