-- ==== Sys2Proof/Laws/Ops.lean ====
section
/-! SUPPORT. What each shared operation does, once: byte order, the status byte, the stack unit, interrupt entry and
return, and the templates of the instruction rules. -/

namespace Sys2Proof.Laws

open Sys2Proof.Machine

/-! ### Byte order -/

@[simp] theorem wordOf_high_low (w : Word) : wordOf (highByte w) (lowByte w) = w := by
  unfold wordOf highByte lowByte
  apply BitVec.eq_of_getLsbD_eq
  intro k hk
  rw [BitVec.getLsbD_append]
  by_cases h : k < 8
  · simp [h]
  · have hk8 : k - 8 < 8 := by omega
    have e : 8 + (k - 8) = k := by omega
    simp [h, hk8, e]

@[simp] theorem lowByte_wordOf (hi lo : Byte) : lowByte (wordOf hi lo) = lo := by
  unfold wordOf lowByte
  apply BitVec.eq_of_getLsbD_eq
  intro k hk
  rw [BitVec.getLsbD_extractLsb', BitVec.getLsbD_append]
  simp [hk]

@[simp] theorem highByte_wordOf (hi lo : Byte) : highByte (wordOf hi lo) = hi := by
  unfold wordOf highByte
  apply BitVec.eq_of_getLsbD_eq
  intro k hk
  rw [BitVec.getLsbD_extractLsb', BitVec.getLsbD_append]
  simp [hk]

theorem wordOf_inj (h l h' l' : Byte) : wordOf h l = wordOf h' l' ↔ h = h' ∧ l = l' := by
  constructor
  · intro e
    exact ⟨by simpa using congrArg highByte e, by simpa using congrArg lowByte e⟩
  · rintro ⟨rfl, rfl⟩
    rfl

/-- The word `{hi, lo}` is `hi * 256 + lo` (R9). -/
theorem toNat_wordOf (hi lo : Byte) : (wordOf hi lo).toNat = hi.toNat * 256 + lo.toNat := by
  unfold wordOf
  rw [BitVec.toNat_append, ← Nat.shiftLeft_add_eq_or_of_lt lo.isLt, Nat.shiftLeft_eq]

/-! ### Stack addresses -/

/-- Two stack slots are the same byte only for the same SP. -/
@[simp] theorem stackAddress_inj (p q : Byte) : stackAddress p = stackAddress q ↔ p = q := by
  simp [stackAddress, wordOf_inj]

/-- Every stack slot is in page 0x01. -/
@[simp] theorem highByte_stackAddress (p : Byte) : highByte (stackAddress p) = stackPage := by simp [stackAddress]

/-- A byte outside page 0x01 is no stack slot. -/
theorem ne_stackAddress (k : Word) (p : Byte) (h : highByte k ≠ stackPage) : k ≠ stackAddress p := by
  rintro rfl
  simp at h

/-! ### The status byte -/

theorem bitAt_statusByte (s : State) (k : Nat) :
    bitAt (statusByte s) k =
      match k with
      | 0 => s.c
      | 1 => s.z
      | 2 => s.i
      | 3 => s.d
      | 4 => s.b
      | 5 => true
      | 6 => s.v
      | 7 => s.n
      | _ => false := by
  match k with
  | 0 | 1 | 2 | 3 | 4 | 5 | 6 | 7 =>
    unfold statusByte bitAt
    repeat rw [BitVec.getLsbD_append]
    simp
  | k + 8 => simp [bitAt, BitVec.getLsbD_of_ge]

/-- Loading a pushed status byte restores the seven flags of the state it was made from (R76). -/
theorem setStatus_statusByte (s t : State) :
    setStatus (statusByte s) t = { t with n := s.n, v := s.v, b := s.b, d := s.d, i := s.i, z := s.z, c := s.c } := by
  simp [setStatus, bitAt_statusByte]

/-! ### The stack unit -/

theorem memRead_pushByte (v : Byte) (s : State) (k : Word) :
    memRead (pushByte v s) k = if k = stackAddress s.sp then v else memRead s k :=
  memRead_memWrite s (stackAddress s.sp) k v

@[simp] theorem pushWord_a (w : Word) (s : State) : (pushWord w s).a = s.a := by simp [pushWord]
@[simp] theorem pushWord_x (w : Word) (s : State) : (pushWord w s).x = s.x := by simp [pushWord]
@[simp] theorem pushWord_y (w : Word) (s : State) : (pushWord w s).y = s.y := by simp [pushWord]
@[simp] theorem pushWord_sp (w : Word) (s : State) : (pushWord w s).sp = s.sp - 1#8 - 1#8 := by simp [pushWord]
@[simp] theorem pushWord_pc (w : Word) (s : State) : (pushWord w s).pc = s.pc := by simp [pushWord]
@[simp] theorem pushWord_c (w : Word) (s : State) : (pushWord w s).c = s.c := by simp [pushWord]
@[simp] theorem pushWord_z (w : Word) (s : State) : (pushWord w s).z = s.z := by simp [pushWord]
@[simp] theorem pushWord_i (w : Word) (s : State) : (pushWord w s).i = s.i := by simp [pushWord]
@[simp] theorem pushWord_d (w : Word) (s : State) : (pushWord w s).d = s.d := by simp [pushWord]
@[simp] theorem pushWord_b (w : Word) (s : State) : (pushWord w s).b = s.b := by simp [pushWord]
@[simp] theorem pushWord_v (w : Word) (s : State) : (pushWord w s).v = s.v := by simp [pushWord]
@[simp] theorem pushWord_n (w : Word) (s : State) : (pushWord w s).n = s.n := by simp [pushWord]
@[simp] theorem pushWord_mem (w : Word) (s : State) : (pushWord w s).mem = Memory.write (Memory.write s.mem (stackAddress s.sp) (highByte w)) (stackAddress (s.sp - 1#8)) (lowByte w) := by simp [pushWord]
@[simp] theorem pushWord_cfg (w : Word) (s : State) : (pushWord w s).cfg = s.cfg := by simp [pushWord]

theorem memRead_pushWord (w : Word) (s : State) (k : Word) :
    memRead (pushWord w s) k =
      if k = stackAddress (s.sp - 1#8) then lowByte w else if k = stackAddress s.sp then highByte w else memRead s k := by
  simp [pushWord, memRead_pushByte]

@[simp] theorem pushFlags_a (s : State) : (pushFlags s).a = s.a := rfl
@[simp] theorem pushFlags_x (s : State) : (pushFlags s).x = s.x := rfl
@[simp] theorem pushFlags_y (s : State) : (pushFlags s).y = s.y := rfl
@[simp] theorem pushFlags_sp (s : State) : (pushFlags s).sp = s.sp - 1#8 := rfl
@[simp] theorem pushFlags_pc (s : State) : (pushFlags s).pc = s.pc := rfl
@[simp] theorem pushFlags_c (s : State) : (pushFlags s).c = s.c := rfl
@[simp] theorem pushFlags_z (s : State) : (pushFlags s).z = s.z := rfl
@[simp] theorem pushFlags_i (s : State) : (pushFlags s).i = s.i := rfl
@[simp] theorem pushFlags_d (s : State) : (pushFlags s).d = s.d := rfl
@[simp] theorem pushFlags_b (s : State) : (pushFlags s).b = s.b := rfl
@[simp] theorem pushFlags_v (s : State) : (pushFlags s).v = s.v := rfl
@[simp] theorem pushFlags_n (s : State) : (pushFlags s).n = s.n := rfl
@[simp] theorem pushFlags_mem (s : State) : (pushFlags s).mem = Memory.write s.mem (stackAddress s.sp) (statusByte s) := rfl
@[simp] theorem pushFlags_cfg (s : State) : (pushFlags s).cfg = s.cfg := rfl

theorem memRead_pushFlags (s : State) (k : Word) :
    memRead (pushFlags s) k = if k = stackAddress s.sp then statusByte s else memRead s k :=
  memRead_pushByte (statusByte s) s k

/-- What a word pull reads, and that it moves SP and nothing else. -/
theorem popWord_eq (s : State) :
    popWord s = (wordOf (memRead s (stackAddress (s.sp + 1#8 + 1#8))) (memRead s (stackAddress (s.sp + 1#8))),
      { s with sp := s.sp + 1#8 + 1#8 }) := rfl

/-- What a status pull loads, and that it moves SP and nothing else. -/
theorem popFlags_eq (s : State) :
    popFlags s = setStatus (memRead s (stackAddress (s.sp + 1#8))) { s with sp := s.sp + 1#8 } := rfl

/-! ### Interrupt entry and return -/

/-- The status a push of the return address leaves is the status before it. -/
theorem statusByte_pushWord (w : Word) (s : State) : statusByte (pushWord w s) = statusByte s := rfl

/-- The state an interrupt entry reads its vector in: the return address and the status are on the stack. -/
def savedState (returnAddr : Word) (s : State) : State := pushFlags (pushWord returnAddr s)

theorem interruptEntry_eq (returnAddr vec : Word) (s : State) :
    interruptEntry returnAddr vec s =
      { savedState returnAddr s with i := true, pc := readWord (savedState returnAddr s) vec } := rfl

@[simp] theorem savedState_a (r : Word) (s : State) : (savedState r s).a = s.a := by simp [savedState]
@[simp] theorem savedState_x (r : Word) (s : State) : (savedState r s).x = s.x := by simp [savedState]
@[simp] theorem savedState_y (r : Word) (s : State) : (savedState r s).y = s.y := by simp [savedState]
@[simp] theorem savedState_sp (r : Word) (s : State) : (savedState r s).sp = s.sp - 1#8 - 1#8 - 1#8 := by simp [savedState]
@[simp] theorem savedState_pc (r : Word) (s : State) : (savedState r s).pc = s.pc := by simp [savedState]
@[simp] theorem savedState_c (r : Word) (s : State) : (savedState r s).c = s.c := by simp [savedState]
@[simp] theorem savedState_z (r : Word) (s : State) : (savedState r s).z = s.z := by simp [savedState]
@[simp] theorem savedState_i (r : Word) (s : State) : (savedState r s).i = s.i := by simp [savedState]
@[simp] theorem savedState_d (r : Word) (s : State) : (savedState r s).d = s.d := by simp [savedState]
@[simp] theorem savedState_b (r : Word) (s : State) : (savedState r s).b = s.b := by simp [savedState]
@[simp] theorem savedState_v (r : Word) (s : State) : (savedState r s).v = s.v := by simp [savedState]
@[simp] theorem savedState_n (r : Word) (s : State) : (savedState r s).n = s.n := by simp [savedState]
@[simp] theorem savedState_mem (r : Word) (s : State) : (savedState r s).mem = Memory.write (Memory.write (Memory.write s.mem (stackAddress s.sp) (highByte r)) (stackAddress (s.sp - 1#8)) (lowByte r)) (stackAddress (s.sp - 1#8 - 1#8)) (statusByte s) := by simp [savedState, statusByte_pushWord]
@[simp] theorem savedState_cfg (r : Word) (s : State) : (savedState r s).cfg = s.cfg := by simp [savedState]

/-- The three bytes an entry pushes, and that no other byte changes (R464). -/
theorem memRead_savedState (r : Word) (s : State) (k : Word) :
    memRead (savedState r s) k =
      if k = stackAddress (s.sp - 1#8 - 1#8) then statusByte s
      else if k = stackAddress (s.sp - 1#8) then lowByte r
      else if k = stackAddress s.sp then highByte r
      else memRead s k := by
  simp [savedState, memRead_pushFlags, memRead_pushWord, statusByte_pushWord]

/-- The vectors are outside the stack page, so an entry reads its vector as it was before the pushes (R80). -/
theorem readWord_savedState (r vec : Word) (s : State) (h : highByte vec ≠ stackPage)
    (h1 : highByte (vec + 1#16) ≠ stackPage) : readWord (savedState r s) vec = readWord s vec := by
  simp [readWord, memRead_savedState, ne_stackAddress _ _ h, ne_stackAddress _ _ h1]

theorem interruptEntry_inv (r vec : Word) (s : State) (h : Safety.Inv s) : Safety.Inv (interruptEntry r vec s) := by
  rw [interruptEntry_eq, Safety.Inv, savedState_mem]
  exact Memory_write_wf _ _ _ (Memory_write_wf _ _ _ (Memory_write_wf _ _ _ h))

/-- What a return from interrupt reads, and everything it writes (R384). -/
theorem returnFromInterrupt_eq (s : State) :
    returnFromInterrupt s =
      { setStatus (memRead s (stackAddress (s.sp + 1#8))) s with
        sp := s.sp + 1#8 + 1#8 + 1#8
        pc := wordOf (memRead s (stackAddress (s.sp + 1#8 + 1#8 + 1#8))) (memRead s (stackAddress (s.sp + 1#8 + 1#8))) } := rfl

/-! ### The templates of the instruction rules -/

@[simp] theorem onSource_a (e : Byte → State → State) (src : Source) (s : State) : (onSource e src s).a = (e (operandValue src s) s).a := rfl
@[simp] theorem onSource_x (e : Byte → State → State) (src : Source) (s : State) : (onSource e src s).x = (e (operandValue src s) s).x := rfl
@[simp] theorem onSource_y (e : Byte → State → State) (src : Source) (s : State) : (onSource e src s).y = (e (operandValue src s) s).y := rfl
@[simp] theorem onSource_sp (e : Byte → State → State) (src : Source) (s : State) : (onSource e src s).sp = (e (operandValue src s) s).sp := rfl
@[simp] theorem onSource_pc (e : Byte → State → State) (src : Source) (s : State) : (onSource e src s).pc = (e (operandValue src s) s).pc + sourceLength src := rfl
@[simp] theorem onSource_c (e : Byte → State → State) (src : Source) (s : State) : (onSource e src s).c = (e (operandValue src s) s).c := rfl
@[simp] theorem onSource_z (e : Byte → State → State) (src : Source) (s : State) : (onSource e src s).z = (e (operandValue src s) s).z := rfl
@[simp] theorem onSource_i (e : Byte → State → State) (src : Source) (s : State) : (onSource e src s).i = (e (operandValue src s) s).i := rfl
@[simp] theorem onSource_d (e : Byte → State → State) (src : Source) (s : State) : (onSource e src s).d = (e (operandValue src s) s).d := rfl
@[simp] theorem onSource_b (e : Byte → State → State) (src : Source) (s : State) : (onSource e src s).b = (e (operandValue src s) s).b := rfl
@[simp] theorem onSource_v (e : Byte → State → State) (src : Source) (s : State) : (onSource e src s).v = (e (operandValue src s) s).v := rfl
@[simp] theorem onSource_n (e : Byte → State → State) (src : Source) (s : State) : (onSource e src s).n = (e (operandValue src s) s).n := rfl
@[simp] theorem onSource_mem (e : Byte → State → State) (src : Source) (s : State) : (onSource e src s).mem = (e (operandValue src s) s).mem := rfl
@[simp] theorem onSource_cfg (e : Byte → State → State) (src : Source) (s : State) : (onSource e src s).cfg = (e (operandValue src s) s).cfg := rfl

@[simp] theorem implied_a (e : State → State) (s : State) : (implied e s).a = (e s).a := rfl
@[simp] theorem implied_x (e : State → State) (s : State) : (implied e s).x = (e s).x := rfl
@[simp] theorem implied_y (e : State → State) (s : State) : (implied e s).y = (e s).y := rfl
@[simp] theorem implied_sp (e : State → State) (s : State) : (implied e s).sp = (e s).sp := rfl
@[simp] theorem implied_pc (e : State → State) (s : State) : (implied e s).pc = (e s).pc + 1#16 := rfl
@[simp] theorem implied_c (e : State → State) (s : State) : (implied e s).c = (e s).c := rfl
@[simp] theorem implied_z (e : State → State) (s : State) : (implied e s).z = (e s).z := rfl
@[simp] theorem implied_i (e : State → State) (s : State) : (implied e s).i = (e s).i := rfl
@[simp] theorem implied_d (e : State → State) (s : State) : (implied e s).d = (e s).d := rfl
@[simp] theorem implied_b (e : State → State) (s : State) : (implied e s).b = (e s).b := rfl
@[simp] theorem implied_v (e : State → State) (s : State) : (implied e s).v = (e s).v := rfl
@[simp] theorem implied_n (e : State → State) (s : State) : (implied e s).n = (e s).n := rfl
@[simp] theorem implied_mem (e : State → State) (s : State) : (implied e s).mem = (e s).mem := rfl
@[simp] theorem implied_cfg (e : State → State) (s : State) : (implied e s).cfg = (e s).cfg := rfl

@[simp] theorem storeAt_a (v : Byte) (mode : AddrMode) (s : State) : (storeAt v mode s).a = s.a := rfl
@[simp] theorem storeAt_x (v : Byte) (mode : AddrMode) (s : State) : (storeAt v mode s).x = s.x := rfl
@[simp] theorem storeAt_y (v : Byte) (mode : AddrMode) (s : State) : (storeAt v mode s).y = s.y := rfl
@[simp] theorem storeAt_sp (v : Byte) (mode : AddrMode) (s : State) : (storeAt v mode s).sp = s.sp := rfl
@[simp] theorem storeAt_pc (v : Byte) (mode : AddrMode) (s : State) : (storeAt v mode s).pc = s.pc + addrLength mode := rfl
@[simp] theorem storeAt_c (v : Byte) (mode : AddrMode) (s : State) : (storeAt v mode s).c = s.c := rfl
@[simp] theorem storeAt_z (v : Byte) (mode : AddrMode) (s : State) : (storeAt v mode s).z = s.z := rfl
@[simp] theorem storeAt_i (v : Byte) (mode : AddrMode) (s : State) : (storeAt v mode s).i = s.i := rfl
@[simp] theorem storeAt_d (v : Byte) (mode : AddrMode) (s : State) : (storeAt v mode s).d = s.d := rfl
@[simp] theorem storeAt_b (v : Byte) (mode : AddrMode) (s : State) : (storeAt v mode s).b = s.b := rfl
@[simp] theorem storeAt_v (v : Byte) (mode : AddrMode) (s : State) : (storeAt v mode s).v = s.v := rfl
@[simp] theorem storeAt_n (v : Byte) (mode : AddrMode) (s : State) : (storeAt v mode s).n = s.n := rfl
@[simp] theorem storeAt_mem (v : Byte) (mode : AddrMode) (s : State) : (storeAt v mode s).mem = Memory.write s.mem (effectiveAddress mode s) v := rfl
@[simp] theorem storeAt_cfg (v : Byte) (mode : AddrMode) (s : State) : (storeAt v mode s).cfg = s.cfg := rfl

theorem memRead_storeAt (v : Byte) (mode : AddrMode) (s : State) (k : Word) :
    memRead (storeAt v mode s) k = if k = effectiveAddress mode s then v else memRead s k :=
  memRead_memWrite s (effectiveAddress mode s) k v

/-- A read-modify-write of the accumulator (R111). -/
theorem modifyPlace_acc (op : Byte → Bool → Byte × Bool) (s : State) :
    modifyPlace op .acc s =
      { s with
        a := (op s.a s.c).1
        c := (op s.a s.c).2
        z := (op s.a s.c).1 == 0#8
        n := bitAt (op s.a s.c).1 7
        pc := s.pc + 1#16 } := rfl

/-- A read-modify-write of memory: one read, one write (R105, R330). -/
theorem modifyPlace_mem (op : Byte → Bool → Byte × Bool) (mode : AddrMode) (s : State) :
    modifyPlace op (.mem mode) s =
      { s with
        c := (op (memRead s (effectiveAddress mode s)) s.c).2
        z := (op (memRead s (effectiveAddress mode s)) s.c).1 == 0#8
        n := bitAt (op (memRead s (effectiveAddress mode s)) s.c).1 7
        pc := s.pc + addrLength mode
        mem := Memory.write s.mem (effectiveAddress mode s) (op (memRead s (effectiveAddress mode s)) s.c).1 } := by
  cases mode <;> rfl

/-- A branch changes PC and nothing else (R385). -/
theorem branch_eq (cond : Bool) (disp : Byte) (s : State) :
    branch cond disp s = { s with pc := if cond then relativeTarget disp s else s.pc + 2#16 } := by
  cases cond <;> rfl

/-! ### ADC and SBC -/

/-- ADC writes A, C, V, Z and N, and nothing else, in both its modes (R284). -/
theorem addToA_frame (m : Byte) (s : State) :
    addToA m s =
      { s with
        a := (addToA m s).a, c := (addToA m s).c, v := (addToA m s).v, z := (addToA m s).z, n := (addToA m s).n } := by
  unfold addToA
  split <;> rfl

@[simp] theorem addToA_x (m : Byte) (s : State) : (addToA m s).x = s.x := by rw [addToA_frame]
@[simp] theorem addToA_y (m : Byte) (s : State) : (addToA m s).y = s.y := by rw [addToA_frame]
@[simp] theorem addToA_sp (m : Byte) (s : State) : (addToA m s).sp = s.sp := by rw [addToA_frame]
@[simp] theorem addToA_pc (m : Byte) (s : State) : (addToA m s).pc = s.pc := by rw [addToA_frame]
@[simp] theorem addToA_i (m : Byte) (s : State) : (addToA m s).i = s.i := by rw [addToA_frame]
@[simp] theorem addToA_d (m : Byte) (s : State) : (addToA m s).d = s.d := by rw [addToA_frame]
@[simp] theorem addToA_b (m : Byte) (s : State) : (addToA m s).b = s.b := by rw [addToA_frame]
@[simp] theorem addToA_mem (m : Byte) (s : State) : (addToA m s).mem = s.mem := by rw [addToA_frame]
@[simp] theorem addToA_cfg (m : Byte) (s : State) : (addToA m s).cfg = s.cfg := by rw [addToA_frame]

@[simp] theorem subtractFromA_x (m : Byte) (s : State) : (subtractFromA m s).x = s.x := rfl
@[simp] theorem subtractFromA_y (m : Byte) (s : State) : (subtractFromA m s).y = s.y := rfl
@[simp] theorem subtractFromA_sp (m : Byte) (s : State) : (subtractFromA m s).sp = s.sp := rfl
@[simp] theorem subtractFromA_pc (m : Byte) (s : State) : (subtractFromA m s).pc = s.pc := rfl
@[simp] theorem subtractFromA_i (m : Byte) (s : State) : (subtractFromA m s).i = s.i := rfl
@[simp] theorem subtractFromA_d (m : Byte) (s : State) : (subtractFromA m s).d = s.d := rfl
@[simp] theorem subtractFromA_b (m : Byte) (s : State) : (subtractFromA m s).b = s.b := rfl
@[simp] theorem subtractFromA_mem (m : Byte) (s : State) : (subtractFromA m s).mem = s.mem := rfl
@[simp] theorem subtractFromA_cfg (m : Byte) (s : State) : (subtractFromA m s).cfg = s.cfg := rfl

end Sys2Proof.Laws
end

