-- ==== Sys2Proof/Laws/Addresses.lean ====
section
/-! SUPPORT. The address arithmetic as numbers: the two bytes of a word, the zero page, the stack page, words read from
the zero page, indexing with its page comparison, and the target of a branch. -/

namespace Sys2Proof.Laws

open Sys2Proof.Machine

theorem toNat_highByte (w : Word) : (highByte w).toNat = w.toNat / 256 := by
  simp [highByte, Nat.shiftRight_eq_div_pow]
  omega

theorem toNat_lowByte (w : Word) : (lowByte w).toNat = w.toNat % 256 := by simp [lowByte]

theorem wordOf_eq_ofNat (hi lo : Byte) : wordOf hi lo = BitVec.ofNat 16 (hi.toNat * 256 + lo.toNat) := by
  apply BitVec.eq_of_toNat_eq
  simp [toNat_wordOf]
  omega

/-- `{0x00, p}` is the number p (R113). -/
theorem zeroPageAddress_eq (p : Byte) : zeroPageAddress p = BitVec.ofNat 16 p.toNat := by
  simp [zeroPageAddress, wordOf_eq_ofNat, zeroPage]

/-- `{0x01, p}` is the number 256 + p (R29). -/
theorem eq_stackAddress_iff (k : Word) (p : Byte) : k = stackAddress p ↔ k.toNat = 0x0100 + p.toNat := by
  rw [← BitVec.toNat_inj, stackAddress, toNat_wordOf]
  rfl

/-- A word from page zero: the high byte one further modulo 256 (R11). -/
theorem readWordZP_eq (s : State) (p : Byte) :
    readWordZP s p =
      BitVec.ofNat 16 ((memRead s (BitVec.ofNat 16 ((p.toNat + 1) % 256))).toNat * 256 +
        (memRead s (BitVec.ofNat 16 (p.toNat % 256))).toNat) := by
  unfold readWordZP
  rw [wordOf_eq_ofNat, zeroPageAddress_eq, zeroPageAddress_eq, Nat.mod_eq_of_lt p.isLt]
  simp

/-- Indexing a 16-bit base is addition modulo 65536 (R117, R118, R121). -/
theorem ofNat_add_zext16 (base : Nat) (index : Byte) :
    BitVec.ofNat 16 base + zext16 index = BitVec.ofNat 16 (base + index.toNat) := by
  apply BitVec.eq_of_toNat_eq
  simp [zext16]

/-- Two addresses lie in different pages exactly when their numbers divided by 256 differ (R15). -/
theorem page_ne_eq (a b : Word) : (highByte a != highByte b) = decide (a.toNat / 256 ≠ b.toNat / 256) := by
  rw [bne, Bool.beq_eq_decide_eq, ← decide_not, ← toNat_highByte, ← toNat_highByte]
  exact decide_eq_decide.mpr (not_congr BitVec.toNat_inj.symm)

/-- A branch target is PC + 2 + the displacement as a number in -128..127, modulo 65536 (R122). -/
theorem toNat_relativeTarget (disp : Byte) (s : State) :
    ((relativeTarget disp s).toNat : Int) = ((s.pc.toNat : Int) + 2 + disp.toInt) % 65536 := by
  have h := BitVec.toInt_eq_toNat_cond disp
  have lt := disp.isLt
  have m : disp.msb = decide (128 ≤ disp.toNat) := by simp [BitVec.msb_eq_decide]
  have e : (relativeTarget disp s).toNat =
      (s.pc.toNat + 2 + (disp.toNat + if disp.msb then 65280 else 0)) % 65536 := by
    simp only [relativeTarget, sext16, BitVec.toNat_add, BitVec.toNat_signExtend, BitVec.toNat_setWidth,
      BitVec.toNat_ofNat, Nat.add_mod_mod, Nat.mod_add_mod]
    have : disp.toNat % 2 ^ 16 = disp.toNat := by omega
    rw [this]
  rw [e, m, h]
  by_cases c : 128 ≤ disp.toNat
  · rw [if_pos (by simpa using c), if_neg (by omega)]
    omega
  · rw [if_neg (by simpa using c), if_pos (by omega)]
    omega

end Sys2Proof.Laws
end

