-- ==== Sys2Proof/Laws/PerInstr.lean ====
section
/-! SUPPORT. Statements about every instruction as syntax, one lemma per constructor: `WholeImage`, that its encoding is a
whole instruction's image (spec/30_encoding.md R133: no operand value is illegal). -/

namespace Sys2Proof.Laws.WholeImage

open Sys2Proof.Machine

/-- The instruction is well-formed, whatever its operand bytes. -/
def Statement (i : Instr) : Prop := i.wellFormed = true

theorem ldaImm (b1 : Byte) : Statement (.ldaImm b1) := rfl
theorem ldaZp (b1 : Byte) : Statement (.ldaZp b1) := rfl
theorem ldaZpX (b1 : Byte) : Statement (.ldaZpX b1) := rfl
theorem ldaAbs (addr : Word) : Statement (.ldaAbs addr) := rfl
theorem ldaAbsX (addr : Word) : Statement (.ldaAbsX addr) := rfl
theorem ldaAbsY (addr : Word) : Statement (.ldaAbsY addr) := rfl
theorem ldaIndX (b1 : Byte) : Statement (.ldaIndX b1) := rfl
theorem ldaIndY (b1 : Byte) : Statement (.ldaIndY b1) := rfl
theorem ldxImm (b1 : Byte) : Statement (.ldxImm b1) := rfl
theorem ldxZp (b1 : Byte) : Statement (.ldxZp b1) := rfl
theorem ldxZpY (b1 : Byte) : Statement (.ldxZpY b1) := rfl
theorem ldxAbs (addr : Word) : Statement (.ldxAbs addr) := rfl
theorem ldxAbsY (addr : Word) : Statement (.ldxAbsY addr) := rfl
theorem ldyImm (b1 : Byte) : Statement (.ldyImm b1) := rfl
theorem ldyZp (b1 : Byte) : Statement (.ldyZp b1) := rfl
theorem ldyZpX (b1 : Byte) : Statement (.ldyZpX b1) := rfl
theorem ldyAbs (addr : Word) : Statement (.ldyAbs addr) := rfl
theorem ldyAbsX (addr : Word) : Statement (.ldyAbsX addr) := rfl
theorem staZp (b1 : Byte) : Statement (.staZp b1) := rfl
theorem staZpX (b1 : Byte) : Statement (.staZpX b1) := rfl
theorem staAbs (addr : Word) : Statement (.staAbs addr) := rfl
theorem staAbsX (addr : Word) : Statement (.staAbsX addr) := rfl
theorem staAbsY (addr : Word) : Statement (.staAbsY addr) := rfl
theorem staIndX (b1 : Byte) : Statement (.staIndX b1) := rfl
theorem staIndY (b1 : Byte) : Statement (.staIndY b1) := rfl
theorem stxZp (b1 : Byte) : Statement (.stxZp b1) := rfl
theorem stxZpY (b1 : Byte) : Statement (.stxZpY b1) := rfl
theorem stxAbs (addr : Word) : Statement (.stxAbs addr) := rfl
theorem styZp (b1 : Byte) : Statement (.styZp b1) := rfl
theorem styZpX (b1 : Byte) : Statement (.styZpX b1) := rfl
theorem styAbs (addr : Word) : Statement (.styAbs addr) := rfl
theorem tax : Statement (.tax) := rfl
theorem tay : Statement (.tay) := rfl
theorem txa : Statement (.txa) := rfl
theorem tya : Statement (.tya) := rfl
theorem tsx : Statement (.tsx) := rfl
theorem txs : Statement (.txs) := rfl
theorem pha : Statement (.pha) := rfl
theorem php : Statement (.php) := rfl
theorem pla : Statement (.pla) := rfl
theorem plp : Statement (.plp) := rfl
theorem adcImm (b1 : Byte) : Statement (.adcImm b1) := rfl
theorem adcZp (b1 : Byte) : Statement (.adcZp b1) := rfl
theorem adcZpX (b1 : Byte) : Statement (.adcZpX b1) := rfl
theorem adcAbs (addr : Word) : Statement (.adcAbs addr) := rfl
theorem adcAbsX (addr : Word) : Statement (.adcAbsX addr) := rfl
theorem adcAbsY (addr : Word) : Statement (.adcAbsY addr) := rfl
theorem adcIndX (b1 : Byte) : Statement (.adcIndX b1) := rfl
theorem adcIndY (b1 : Byte) : Statement (.adcIndY b1) := rfl
theorem sbcImm (b1 : Byte) : Statement (.sbcImm b1) := rfl
theorem sbcZp (b1 : Byte) : Statement (.sbcZp b1) := rfl
theorem sbcZpX (b1 : Byte) : Statement (.sbcZpX b1) := rfl
theorem sbcAbs (addr : Word) : Statement (.sbcAbs addr) := rfl
theorem sbcAbsX (addr : Word) : Statement (.sbcAbsX addr) := rfl
theorem sbcAbsY (addr : Word) : Statement (.sbcAbsY addr) := rfl
theorem sbcIndX (b1 : Byte) : Statement (.sbcIndX b1) := rfl
theorem sbcIndY (b1 : Byte) : Statement (.sbcIndY b1) := rfl
theorem cmpImm (b1 : Byte) : Statement (.cmpImm b1) := rfl
theorem cmpZp (b1 : Byte) : Statement (.cmpZp b1) := rfl
theorem cmpZpX (b1 : Byte) : Statement (.cmpZpX b1) := rfl
theorem cmpAbs (addr : Word) : Statement (.cmpAbs addr) := rfl
theorem cmpAbsX (addr : Word) : Statement (.cmpAbsX addr) := rfl
theorem cmpAbsY (addr : Word) : Statement (.cmpAbsY addr) := rfl
theorem cmpIndX (b1 : Byte) : Statement (.cmpIndX b1) := rfl
theorem cmpIndY (b1 : Byte) : Statement (.cmpIndY b1) := rfl
theorem cpxImm (b1 : Byte) : Statement (.cpxImm b1) := rfl
theorem cpxZp (b1 : Byte) : Statement (.cpxZp b1) := rfl
theorem cpxAbs (addr : Word) : Statement (.cpxAbs addr) := rfl
theorem cpyImm (b1 : Byte) : Statement (.cpyImm b1) := rfl
theorem cpyZp (b1 : Byte) : Statement (.cpyZp b1) := rfl
theorem cpyAbs (addr : Word) : Statement (.cpyAbs addr) := rfl
theorem incZp (b1 : Byte) : Statement (.incZp b1) := rfl
theorem incZpX (b1 : Byte) : Statement (.incZpX b1) := rfl
theorem incAbs (addr : Word) : Statement (.incAbs addr) := rfl
theorem incAbsX (addr : Word) : Statement (.incAbsX addr) := rfl
theorem decZp (b1 : Byte) : Statement (.decZp b1) := rfl
theorem decZpX (b1 : Byte) : Statement (.decZpX b1) := rfl
theorem decAbs (addr : Word) : Statement (.decAbs addr) := rfl
theorem decAbsX (addr : Word) : Statement (.decAbsX addr) := rfl
theorem inx : Statement (.inx) := rfl
theorem iny : Statement (.iny) := rfl
theorem dex : Statement (.dex) := rfl
theorem dey : Statement (.dey) := rfl
theorem andImm (b1 : Byte) : Statement (.andImm b1) := rfl
theorem andZp (b1 : Byte) : Statement (.andZp b1) := rfl
theorem andZpX (b1 : Byte) : Statement (.andZpX b1) := rfl
theorem andAbs (addr : Word) : Statement (.andAbs addr) := rfl
theorem andAbsX (addr : Word) : Statement (.andAbsX addr) := rfl
theorem andAbsY (addr : Word) : Statement (.andAbsY addr) := rfl
theorem andIndX (b1 : Byte) : Statement (.andIndX b1) := rfl
theorem andIndY (b1 : Byte) : Statement (.andIndY b1) := rfl
theorem oraImm (b1 : Byte) : Statement (.oraImm b1) := rfl
theorem oraZp (b1 : Byte) : Statement (.oraZp b1) := rfl
theorem oraZpX (b1 : Byte) : Statement (.oraZpX b1) := rfl
theorem oraAbs (addr : Word) : Statement (.oraAbs addr) := rfl
theorem oraAbsX (addr : Word) : Statement (.oraAbsX addr) := rfl
theorem oraAbsY (addr : Word) : Statement (.oraAbsY addr) := rfl
theorem oraIndX (b1 : Byte) : Statement (.oraIndX b1) := rfl
theorem oraIndY (b1 : Byte) : Statement (.oraIndY b1) := rfl
theorem eorImm (b1 : Byte) : Statement (.eorImm b1) := rfl
theorem eorZp (b1 : Byte) : Statement (.eorZp b1) := rfl
theorem eorZpX (b1 : Byte) : Statement (.eorZpX b1) := rfl
theorem eorAbs (addr : Word) : Statement (.eorAbs addr) := rfl
theorem eorAbsX (addr : Word) : Statement (.eorAbsX addr) := rfl
theorem eorAbsY (addr : Word) : Statement (.eorAbsY addr) := rfl
theorem eorIndX (b1 : Byte) : Statement (.eorIndX b1) := rfl
theorem eorIndY (b1 : Byte) : Statement (.eorIndY b1) := rfl
theorem bitZp (b1 : Byte) : Statement (.bitZp b1) := rfl
theorem bitAbs (addr : Word) : Statement (.bitAbs addr) := rfl
theorem aslAcc : Statement (.aslAcc) := rfl
theorem aslZp (b1 : Byte) : Statement (.aslZp b1) := rfl
theorem aslZpX (b1 : Byte) : Statement (.aslZpX b1) := rfl
theorem aslAbs (addr : Word) : Statement (.aslAbs addr) := rfl
theorem aslAbsX (addr : Word) : Statement (.aslAbsX addr) := rfl
theorem lsrAcc : Statement (.lsrAcc) := rfl
theorem lsrZp (b1 : Byte) : Statement (.lsrZp b1) := rfl
theorem lsrZpX (b1 : Byte) : Statement (.lsrZpX b1) := rfl
theorem lsrAbs (addr : Word) : Statement (.lsrAbs addr) := rfl
theorem lsrAbsX (addr : Word) : Statement (.lsrAbsX addr) := rfl
theorem rolAcc : Statement (.rolAcc) := rfl
theorem rolZp (b1 : Byte) : Statement (.rolZp b1) := rfl
theorem rolZpX (b1 : Byte) : Statement (.rolZpX b1) := rfl
theorem rolAbs (addr : Word) : Statement (.rolAbs addr) := rfl
theorem rolAbsX (addr : Word) : Statement (.rolAbsX addr) := rfl
theorem rorAcc : Statement (.rorAcc) := rfl
theorem rorZp (b1 : Byte) : Statement (.rorZp b1) := rfl
theorem rorZpX (b1 : Byte) : Statement (.rorZpX b1) := rfl
theorem rorAbs (addr : Word) : Statement (.rorAbs addr) := rfl
theorem rorAbsX (addr : Word) : Statement (.rorAbsX addr) := rfl
theorem jmpAbs (addr : Word) : Statement (.jmpAbs addr) := rfl
theorem jmpInd (ptr : Word) : Statement (.jmpInd ptr) := rfl
theorem jsr (addr : Word) : Statement (.jsr addr) := rfl
theorem rts : Statement (.rts) := rfl
theorem rti : Statement (.rti) := rfl
theorem bcc (disp : Byte) : Statement (.bcc disp) := rfl
theorem bcs (disp : Byte) : Statement (.bcs disp) := rfl
theorem beq (disp : Byte) : Statement (.beq disp) := rfl
theorem bne (disp : Byte) : Statement (.bne disp) := rfl
theorem bmi (disp : Byte) : Statement (.bmi disp) := rfl
theorem bpl (disp : Byte) : Statement (.bpl disp) := rfl
theorem bvc (disp : Byte) : Statement (.bvc disp) := rfl
theorem bvs (disp : Byte) : Statement (.bvs disp) := rfl
theorem clc : Statement (.clc) := rfl
theorem cld : Statement (.cld) := rfl
theorem cli : Statement (.cli) := rfl
theorem clv : Statement (.clv) := rfl
theorem sec : Statement (.sec) := rfl
theorem sed : Statement (.sed) := rfl
theorem sei : Statement (.sei) := rfl
theorem nop : Statement (.nop) := rfl
theorem brk : Statement (.brk) := rfl

end Sys2Proof.Laws.WholeImage
end

