-- ==== Sys2Proof/Laws/Table.lean ====
section
/-! SUPPORT. The opcode table read at each instruction: one lemma per constructor gives its row (mnemonic, mode, cycle cost, format), so that no proof evaluates the table again; `modeOf`, `mnemonicOf` and
`costOf` follow by `simp [modeOf]` and so on. -/

namespace Sys2Proof.Laws

/-- The row of an instruction is the table's entry under its opcode. -/
theorem entryOf_eq (i : Instr) (op : Byte) (operands : List Byte) (h : encode i = op :: operands) :
    entryOf i = opcodeEntry op := by
  simp [entryOf, opcodeOf, h]

theorem modeOf_eq (i : Instr) (e : OpcodeEntry) (h : entryOf i = some e) : modeOf i = e.mode := by
  simp [modeOf, h]

theorem mnemonicOf_eq (i : Instr) (e : OpcodeEntry) (h : entryOf i = some e) : mnemonicOf i = e.mnemonic := by
  simp [mnemonicOf, h]

theorem costOf_eq (i : Instr) (e : OpcodeEntry) (h : entryOf i = some e) : costOf i = e.cost := by
  simp [costOf, h]

@[simp] theorem entryOf_ldaImm (b1 : Byte) :
    entryOf (.ldaImm b1) = some ⟨"LDA", .immediate, .fixed 2, .f2 .ldaImm⟩ := (entryOf_eq _ 0xA9#8 _ rfl).trans rfl
@[simp] theorem entryOf_ldaZp (b1 : Byte) :
    entryOf (.ldaZp b1) = some ⟨"LDA", .zeroPage, .fixed 3, .f2 .ldaZp⟩ := (entryOf_eq _ 0xA5#8 _ rfl).trans rfl
@[simp] theorem entryOf_ldaZpX (b1 : Byte) :
    entryOf (.ldaZpX b1) = some ⟨"LDA", .zeroPageX, .fixed 4, .f2 .ldaZpX⟩ := (entryOf_eq _ 0xB5#8 _ rfl).trans rfl
@[simp] theorem entryOf_ldaAbs (addr : Word) :
    entryOf (.ldaAbs addr) = some ⟨"LDA", .absolute, .fixed 4, .f3 .ldaAbs⟩ := (entryOf_eq _ 0xAD#8 _ rfl).trans rfl
@[simp] theorem entryOf_ldaAbsX (addr : Word) :
    entryOf (.ldaAbsX addr) = some ⟨"LDA", .absoluteX, .crossing 4, .f3 .ldaAbsX⟩ := (entryOf_eq _ 0xBD#8 _ rfl).trans rfl
@[simp] theorem entryOf_ldaAbsY (addr : Word) :
    entryOf (.ldaAbsY addr) = some ⟨"LDA", .absoluteY, .crossing 4, .f3 .ldaAbsY⟩ := (entryOf_eq _ 0xB9#8 _ rfl).trans rfl
@[simp] theorem entryOf_ldaIndX (b1 : Byte) :
    entryOf (.ldaIndX b1) = some ⟨"LDA", .indexedIndirectX, .fixed 6, .f2 .ldaIndX⟩ := (entryOf_eq _ 0xA1#8 _ rfl).trans rfl
@[simp] theorem entryOf_ldaIndY (b1 : Byte) :
    entryOf (.ldaIndY b1) = some ⟨"LDA", .indirectIndexedY, .crossing 5, .f2 .ldaIndY⟩ := (entryOf_eq _ 0xB1#8 _ rfl).trans rfl
@[simp] theorem entryOf_ldxImm (b1 : Byte) :
    entryOf (.ldxImm b1) = some ⟨"LDX", .immediate, .fixed 2, .f2 .ldxImm⟩ := (entryOf_eq _ 0xA2#8 _ rfl).trans rfl
@[simp] theorem entryOf_ldxZp (b1 : Byte) :
    entryOf (.ldxZp b1) = some ⟨"LDX", .zeroPage, .fixed 3, .f2 .ldxZp⟩ := (entryOf_eq _ 0xA6#8 _ rfl).trans rfl
@[simp] theorem entryOf_ldxZpY (b1 : Byte) :
    entryOf (.ldxZpY b1) = some ⟨"LDX", .zeroPageY, .fixed 4, .f2 .ldxZpY⟩ := (entryOf_eq _ 0xB6#8 _ rfl).trans rfl
@[simp] theorem entryOf_ldxAbs (addr : Word) :
    entryOf (.ldxAbs addr) = some ⟨"LDX", .absolute, .fixed 4, .f3 .ldxAbs⟩ := (entryOf_eq _ 0xAE#8 _ rfl).trans rfl
@[simp] theorem entryOf_ldxAbsY (addr : Word) :
    entryOf (.ldxAbsY addr) = some ⟨"LDX", .absoluteY, .crossing 4, .f3 .ldxAbsY⟩ := (entryOf_eq _ 0xBE#8 _ rfl).trans rfl
@[simp] theorem entryOf_ldyImm (b1 : Byte) :
    entryOf (.ldyImm b1) = some ⟨"LDY", .immediate, .fixed 2, .f2 .ldyImm⟩ := (entryOf_eq _ 0xA0#8 _ rfl).trans rfl
@[simp] theorem entryOf_ldyZp (b1 : Byte) :
    entryOf (.ldyZp b1) = some ⟨"LDY", .zeroPage, .fixed 3, .f2 .ldyZp⟩ := (entryOf_eq _ 0xA4#8 _ rfl).trans rfl
@[simp] theorem entryOf_ldyZpX (b1 : Byte) :
    entryOf (.ldyZpX b1) = some ⟨"LDY", .zeroPageX, .fixed 4, .f2 .ldyZpX⟩ := (entryOf_eq _ 0xB4#8 _ rfl).trans rfl
@[simp] theorem entryOf_ldyAbs (addr : Word) :
    entryOf (.ldyAbs addr) = some ⟨"LDY", .absolute, .fixed 4, .f3 .ldyAbs⟩ := (entryOf_eq _ 0xAC#8 _ rfl).trans rfl
@[simp] theorem entryOf_ldyAbsX (addr : Word) :
    entryOf (.ldyAbsX addr) = some ⟨"LDY", .absoluteX, .crossing 4, .f3 .ldyAbsX⟩ := (entryOf_eq _ 0xBC#8 _ rfl).trans rfl
@[simp] theorem entryOf_staZp (b1 : Byte) :
    entryOf (.staZp b1) = some ⟨"STA", .zeroPage, .fixed 3, .f2 .staZp⟩ := (entryOf_eq _ 0x85#8 _ rfl).trans rfl
@[simp] theorem entryOf_staZpX (b1 : Byte) :
    entryOf (.staZpX b1) = some ⟨"STA", .zeroPageX, .fixed 4, .f2 .staZpX⟩ := (entryOf_eq _ 0x95#8 _ rfl).trans rfl
@[simp] theorem entryOf_staAbs (addr : Word) :
    entryOf (.staAbs addr) = some ⟨"STA", .absolute, .fixed 4, .f3 .staAbs⟩ := (entryOf_eq _ 0x8D#8 _ rfl).trans rfl
@[simp] theorem entryOf_staAbsX (addr : Word) :
    entryOf (.staAbsX addr) = some ⟨"STA", .absoluteX, .fixed 5, .f3 .staAbsX⟩ := (entryOf_eq _ 0x9D#8 _ rfl).trans rfl
@[simp] theorem entryOf_staAbsY (addr : Word) :
    entryOf (.staAbsY addr) = some ⟨"STA", .absoluteY, .fixed 5, .f3 .staAbsY⟩ := (entryOf_eq _ 0x99#8 _ rfl).trans rfl
@[simp] theorem entryOf_staIndX (b1 : Byte) :
    entryOf (.staIndX b1) = some ⟨"STA", .indexedIndirectX, .fixed 6, .f2 .staIndX⟩ := (entryOf_eq _ 0x81#8 _ rfl).trans rfl
@[simp] theorem entryOf_staIndY (b1 : Byte) :
    entryOf (.staIndY b1) = some ⟨"STA", .indirectIndexedY, .fixed 6, .f2 .staIndY⟩ := (entryOf_eq _ 0x91#8 _ rfl).trans rfl
@[simp] theorem entryOf_stxZp (b1 : Byte) :
    entryOf (.stxZp b1) = some ⟨"STX", .zeroPage, .fixed 3, .f2 .stxZp⟩ := (entryOf_eq _ 0x86#8 _ rfl).trans rfl
@[simp] theorem entryOf_stxZpY (b1 : Byte) :
    entryOf (.stxZpY b1) = some ⟨"STX", .zeroPageY, .fixed 4, .f2 .stxZpY⟩ := (entryOf_eq _ 0x96#8 _ rfl).trans rfl
@[simp] theorem entryOf_stxAbs (addr : Word) :
    entryOf (.stxAbs addr) = some ⟨"STX", .absolute, .fixed 4, .f3 .stxAbs⟩ := (entryOf_eq _ 0x8E#8 _ rfl).trans rfl
@[simp] theorem entryOf_styZp (b1 : Byte) :
    entryOf (.styZp b1) = some ⟨"STY", .zeroPage, .fixed 3, .f2 .styZp⟩ := (entryOf_eq _ 0x84#8 _ rfl).trans rfl
@[simp] theorem entryOf_styZpX (b1 : Byte) :
    entryOf (.styZpX b1) = some ⟨"STY", .zeroPageX, .fixed 4, .f2 .styZpX⟩ := (entryOf_eq _ 0x94#8 _ rfl).trans rfl
@[simp] theorem entryOf_styAbs (addr : Word) :
    entryOf (.styAbs addr) = some ⟨"STY", .absolute, .fixed 4, .f3 .styAbs⟩ := (entryOf_eq _ 0x8C#8 _ rfl).trans rfl
@[simp] theorem entryOf_tax :
    entryOf .tax = some ⟨"TAX", .implied, .fixed 2, .f1 .tax⟩ := (entryOf_eq _ 0xAA#8 _ rfl).trans rfl
@[simp] theorem entryOf_tay :
    entryOf .tay = some ⟨"TAY", .implied, .fixed 2, .f1 .tay⟩ := (entryOf_eq _ 0xA8#8 _ rfl).trans rfl
@[simp] theorem entryOf_txa :
    entryOf .txa = some ⟨"TXA", .implied, .fixed 2, .f1 .txa⟩ := (entryOf_eq _ 0x8A#8 _ rfl).trans rfl
@[simp] theorem entryOf_tya :
    entryOf .tya = some ⟨"TYA", .implied, .fixed 2, .f1 .tya⟩ := (entryOf_eq _ 0x98#8 _ rfl).trans rfl
@[simp] theorem entryOf_tsx :
    entryOf .tsx = some ⟨"TSX", .implied, .fixed 2, .f1 .tsx⟩ := (entryOf_eq _ 0xBA#8 _ rfl).trans rfl
@[simp] theorem entryOf_txs :
    entryOf .txs = some ⟨"TXS", .implied, .fixed 2, .f1 .txs⟩ := (entryOf_eq _ 0x9A#8 _ rfl).trans rfl
@[simp] theorem entryOf_pha :
    entryOf .pha = some ⟨"PHA", .implied, .fixed 3, .f1 .pha⟩ := (entryOf_eq _ 0x48#8 _ rfl).trans rfl
@[simp] theorem entryOf_php :
    entryOf .php = some ⟨"PHP", .implied, .fixed 3, .f1 .php⟩ := (entryOf_eq _ 0x08#8 _ rfl).trans rfl
@[simp] theorem entryOf_pla :
    entryOf .pla = some ⟨"PLA", .implied, .fixed 4, .f1 .pla⟩ := (entryOf_eq _ 0x68#8 _ rfl).trans rfl
@[simp] theorem entryOf_plp :
    entryOf .plp = some ⟨"PLP", .implied, .fixed 4, .f1 .plp⟩ := (entryOf_eq _ 0x28#8 _ rfl).trans rfl
@[simp] theorem entryOf_adcImm (b1 : Byte) :
    entryOf (.adcImm b1) = some ⟨"ADC", .immediate, .fixed 2, .f2 .adcImm⟩ := (entryOf_eq _ 0x69#8 _ rfl).trans rfl
@[simp] theorem entryOf_adcZp (b1 : Byte) :
    entryOf (.adcZp b1) = some ⟨"ADC", .zeroPage, .fixed 3, .f2 .adcZp⟩ := (entryOf_eq _ 0x65#8 _ rfl).trans rfl
@[simp] theorem entryOf_adcZpX (b1 : Byte) :
    entryOf (.adcZpX b1) = some ⟨"ADC", .zeroPageX, .fixed 4, .f2 .adcZpX⟩ := (entryOf_eq _ 0x75#8 _ rfl).trans rfl
@[simp] theorem entryOf_adcAbs (addr : Word) :
    entryOf (.adcAbs addr) = some ⟨"ADC", .absolute, .fixed 4, .f3 .adcAbs⟩ := (entryOf_eq _ 0x6D#8 _ rfl).trans rfl
@[simp] theorem entryOf_adcAbsX (addr : Word) :
    entryOf (.adcAbsX addr) = some ⟨"ADC", .absoluteX, .crossing 4, .f3 .adcAbsX⟩ := (entryOf_eq _ 0x7D#8 _ rfl).trans rfl
@[simp] theorem entryOf_adcAbsY (addr : Word) :
    entryOf (.adcAbsY addr) = some ⟨"ADC", .absoluteY, .crossing 4, .f3 .adcAbsY⟩ := (entryOf_eq _ 0x79#8 _ rfl).trans rfl
@[simp] theorem entryOf_adcIndX (b1 : Byte) :
    entryOf (.adcIndX b1) = some ⟨"ADC", .indexedIndirectX, .fixed 6, .f2 .adcIndX⟩ := (entryOf_eq _ 0x61#8 _ rfl).trans rfl
@[simp] theorem entryOf_adcIndY (b1 : Byte) :
    entryOf (.adcIndY b1) = some ⟨"ADC", .indirectIndexedY, .crossing 5, .f2 .adcIndY⟩ := (entryOf_eq _ 0x71#8 _ rfl).trans rfl
@[simp] theorem entryOf_sbcImm (b1 : Byte) :
    entryOf (.sbcImm b1) = some ⟨"SBC", .immediate, .fixed 2, .f2 .sbcImm⟩ := (entryOf_eq _ 0xE9#8 _ rfl).trans rfl
@[simp] theorem entryOf_sbcZp (b1 : Byte) :
    entryOf (.sbcZp b1) = some ⟨"SBC", .zeroPage, .fixed 3, .f2 .sbcZp⟩ := (entryOf_eq _ 0xE5#8 _ rfl).trans rfl
@[simp] theorem entryOf_sbcZpX (b1 : Byte) :
    entryOf (.sbcZpX b1) = some ⟨"SBC", .zeroPageX, .fixed 4, .f2 .sbcZpX⟩ := (entryOf_eq _ 0xF5#8 _ rfl).trans rfl
@[simp] theorem entryOf_sbcAbs (addr : Word) :
    entryOf (.sbcAbs addr) = some ⟨"SBC", .absolute, .fixed 4, .f3 .sbcAbs⟩ := (entryOf_eq _ 0xED#8 _ rfl).trans rfl
@[simp] theorem entryOf_sbcAbsX (addr : Word) :
    entryOf (.sbcAbsX addr) = some ⟨"SBC", .absoluteX, .crossing 4, .f3 .sbcAbsX⟩ := (entryOf_eq _ 0xFD#8 _ rfl).trans rfl
@[simp] theorem entryOf_sbcAbsY (addr : Word) :
    entryOf (.sbcAbsY addr) = some ⟨"SBC", .absoluteY, .crossing 4, .f3 .sbcAbsY⟩ := (entryOf_eq _ 0xF9#8 _ rfl).trans rfl
@[simp] theorem entryOf_sbcIndX (b1 : Byte) :
    entryOf (.sbcIndX b1) = some ⟨"SBC", .indexedIndirectX, .fixed 6, .f2 .sbcIndX⟩ := (entryOf_eq _ 0xE1#8 _ rfl).trans rfl
@[simp] theorem entryOf_sbcIndY (b1 : Byte) :
    entryOf (.sbcIndY b1) = some ⟨"SBC", .indirectIndexedY, .crossing 5, .f2 .sbcIndY⟩ := (entryOf_eq _ 0xF1#8 _ rfl).trans rfl
@[simp] theorem entryOf_cmpImm (b1 : Byte) :
    entryOf (.cmpImm b1) = some ⟨"CMP", .immediate, .fixed 2, .f2 .cmpImm⟩ := (entryOf_eq _ 0xC9#8 _ rfl).trans rfl
@[simp] theorem entryOf_cmpZp (b1 : Byte) :
    entryOf (.cmpZp b1) = some ⟨"CMP", .zeroPage, .fixed 3, .f2 .cmpZp⟩ := (entryOf_eq _ 0xC5#8 _ rfl).trans rfl
@[simp] theorem entryOf_cmpZpX (b1 : Byte) :
    entryOf (.cmpZpX b1) = some ⟨"CMP", .zeroPageX, .fixed 4, .f2 .cmpZpX⟩ := (entryOf_eq _ 0xD5#8 _ rfl).trans rfl
@[simp] theorem entryOf_cmpAbs (addr : Word) :
    entryOf (.cmpAbs addr) = some ⟨"CMP", .absolute, .fixed 4, .f3 .cmpAbs⟩ := (entryOf_eq _ 0xCD#8 _ rfl).trans rfl
@[simp] theorem entryOf_cmpAbsX (addr : Word) :
    entryOf (.cmpAbsX addr) = some ⟨"CMP", .absoluteX, .crossing 4, .f3 .cmpAbsX⟩ := (entryOf_eq _ 0xDD#8 _ rfl).trans rfl
@[simp] theorem entryOf_cmpAbsY (addr : Word) :
    entryOf (.cmpAbsY addr) = some ⟨"CMP", .absoluteY, .crossing 4, .f3 .cmpAbsY⟩ := (entryOf_eq _ 0xD9#8 _ rfl).trans rfl
@[simp] theorem entryOf_cmpIndX (b1 : Byte) :
    entryOf (.cmpIndX b1) = some ⟨"CMP", .indexedIndirectX, .fixed 6, .f2 .cmpIndX⟩ := (entryOf_eq _ 0xC1#8 _ rfl).trans rfl
@[simp] theorem entryOf_cmpIndY (b1 : Byte) :
    entryOf (.cmpIndY b1) = some ⟨"CMP", .indirectIndexedY, .crossing 5, .f2 .cmpIndY⟩ := (entryOf_eq _ 0xD1#8 _ rfl).trans rfl
@[simp] theorem entryOf_cpxImm (b1 : Byte) :
    entryOf (.cpxImm b1) = some ⟨"CPX", .immediate, .fixed 2, .f2 .cpxImm⟩ := (entryOf_eq _ 0xE0#8 _ rfl).trans rfl
@[simp] theorem entryOf_cpxZp (b1 : Byte) :
    entryOf (.cpxZp b1) = some ⟨"CPX", .zeroPage, .fixed 3, .f2 .cpxZp⟩ := (entryOf_eq _ 0xE4#8 _ rfl).trans rfl
@[simp] theorem entryOf_cpxAbs (addr : Word) :
    entryOf (.cpxAbs addr) = some ⟨"CPX", .absolute, .fixed 4, .f3 .cpxAbs⟩ := (entryOf_eq _ 0xEC#8 _ rfl).trans rfl
@[simp] theorem entryOf_cpyImm (b1 : Byte) :
    entryOf (.cpyImm b1) = some ⟨"CPY", .immediate, .fixed 2, .f2 .cpyImm⟩ := (entryOf_eq _ 0xC0#8 _ rfl).trans rfl
@[simp] theorem entryOf_cpyZp (b1 : Byte) :
    entryOf (.cpyZp b1) = some ⟨"CPY", .zeroPage, .fixed 3, .f2 .cpyZp⟩ := (entryOf_eq _ 0xC4#8 _ rfl).trans rfl
@[simp] theorem entryOf_cpyAbs (addr : Word) :
    entryOf (.cpyAbs addr) = some ⟨"CPY", .absolute, .fixed 4, .f3 .cpyAbs⟩ := (entryOf_eq _ 0xCC#8 _ rfl).trans rfl
@[simp] theorem entryOf_incZp (b1 : Byte) :
    entryOf (.incZp b1) = some ⟨"INC", .zeroPage, .fixed 5, .f2 .incZp⟩ := (entryOf_eq _ 0xE6#8 _ rfl).trans rfl
@[simp] theorem entryOf_incZpX (b1 : Byte) :
    entryOf (.incZpX b1) = some ⟨"INC", .zeroPageX, .fixed 6, .f2 .incZpX⟩ := (entryOf_eq _ 0xF6#8 _ rfl).trans rfl
@[simp] theorem entryOf_incAbs (addr : Word) :
    entryOf (.incAbs addr) = some ⟨"INC", .absolute, .fixed 6, .f3 .incAbs⟩ := (entryOf_eq _ 0xEE#8 _ rfl).trans rfl
@[simp] theorem entryOf_incAbsX (addr : Word) :
    entryOf (.incAbsX addr) = some ⟨"INC", .absoluteX, .fixed 7, .f3 .incAbsX⟩ := (entryOf_eq _ 0xFE#8 _ rfl).trans rfl
@[simp] theorem entryOf_decZp (b1 : Byte) :
    entryOf (.decZp b1) = some ⟨"DEC", .zeroPage, .fixed 5, .f2 .decZp⟩ := (entryOf_eq _ 0xC6#8 _ rfl).trans rfl
@[simp] theorem entryOf_decZpX (b1 : Byte) :
    entryOf (.decZpX b1) = some ⟨"DEC", .zeroPageX, .fixed 6, .f2 .decZpX⟩ := (entryOf_eq _ 0xD6#8 _ rfl).trans rfl
@[simp] theorem entryOf_decAbs (addr : Word) :
    entryOf (.decAbs addr) = some ⟨"DEC", .absolute, .fixed 6, .f3 .decAbs⟩ := (entryOf_eq _ 0xCE#8 _ rfl).trans rfl
@[simp] theorem entryOf_decAbsX (addr : Word) :
    entryOf (.decAbsX addr) = some ⟨"DEC", .absoluteX, .fixed 7, .f3 .decAbsX⟩ := (entryOf_eq _ 0xDE#8 _ rfl).trans rfl
@[simp] theorem entryOf_inx :
    entryOf .inx = some ⟨"INX", .implied, .fixed 2, .f1 .inx⟩ := (entryOf_eq _ 0xE8#8 _ rfl).trans rfl
@[simp] theorem entryOf_iny :
    entryOf .iny = some ⟨"INY", .implied, .fixed 2, .f1 .iny⟩ := (entryOf_eq _ 0xC8#8 _ rfl).trans rfl
@[simp] theorem entryOf_dex :
    entryOf .dex = some ⟨"DEX", .implied, .fixed 2, .f1 .dex⟩ := (entryOf_eq _ 0xCA#8 _ rfl).trans rfl
@[simp] theorem entryOf_dey :
    entryOf .dey = some ⟨"DEY", .implied, .fixed 2, .f1 .dey⟩ := (entryOf_eq _ 0x88#8 _ rfl).trans rfl
@[simp] theorem entryOf_andImm (b1 : Byte) :
    entryOf (.andImm b1) = some ⟨"AND", .immediate, .fixed 2, .f2 .andImm⟩ := (entryOf_eq _ 0x29#8 _ rfl).trans rfl
@[simp] theorem entryOf_andZp (b1 : Byte) :
    entryOf (.andZp b1) = some ⟨"AND", .zeroPage, .fixed 3, .f2 .andZp⟩ := (entryOf_eq _ 0x25#8 _ rfl).trans rfl
@[simp] theorem entryOf_andZpX (b1 : Byte) :
    entryOf (.andZpX b1) = some ⟨"AND", .zeroPageX, .fixed 4, .f2 .andZpX⟩ := (entryOf_eq _ 0x35#8 _ rfl).trans rfl
@[simp] theorem entryOf_andAbs (addr : Word) :
    entryOf (.andAbs addr) = some ⟨"AND", .absolute, .fixed 4, .f3 .andAbs⟩ := (entryOf_eq _ 0x2D#8 _ rfl).trans rfl
@[simp] theorem entryOf_andAbsX (addr : Word) :
    entryOf (.andAbsX addr) = some ⟨"AND", .absoluteX, .crossing 4, .f3 .andAbsX⟩ := (entryOf_eq _ 0x3D#8 _ rfl).trans rfl
@[simp] theorem entryOf_andAbsY (addr : Word) :
    entryOf (.andAbsY addr) = some ⟨"AND", .absoluteY, .crossing 4, .f3 .andAbsY⟩ := (entryOf_eq _ 0x39#8 _ rfl).trans rfl
@[simp] theorem entryOf_andIndX (b1 : Byte) :
    entryOf (.andIndX b1) = some ⟨"AND", .indexedIndirectX, .fixed 6, .f2 .andIndX⟩ := (entryOf_eq _ 0x21#8 _ rfl).trans rfl
@[simp] theorem entryOf_andIndY (b1 : Byte) :
    entryOf (.andIndY b1) = some ⟨"AND", .indirectIndexedY, .crossing 5, .f2 .andIndY⟩ := (entryOf_eq _ 0x31#8 _ rfl).trans rfl
@[simp] theorem entryOf_oraImm (b1 : Byte) :
    entryOf (.oraImm b1) = some ⟨"ORA", .immediate, .fixed 2, .f2 .oraImm⟩ := (entryOf_eq _ 0x09#8 _ rfl).trans rfl
@[simp] theorem entryOf_oraZp (b1 : Byte) :
    entryOf (.oraZp b1) = some ⟨"ORA", .zeroPage, .fixed 3, .f2 .oraZp⟩ := (entryOf_eq _ 0x05#8 _ rfl).trans rfl
@[simp] theorem entryOf_oraZpX (b1 : Byte) :
    entryOf (.oraZpX b1) = some ⟨"ORA", .zeroPageX, .fixed 4, .f2 .oraZpX⟩ := (entryOf_eq _ 0x15#8 _ rfl).trans rfl
@[simp] theorem entryOf_oraAbs (addr : Word) :
    entryOf (.oraAbs addr) = some ⟨"ORA", .absolute, .fixed 4, .f3 .oraAbs⟩ := (entryOf_eq _ 0x0D#8 _ rfl).trans rfl
@[simp] theorem entryOf_oraAbsX (addr : Word) :
    entryOf (.oraAbsX addr) = some ⟨"ORA", .absoluteX, .crossing 4, .f3 .oraAbsX⟩ := (entryOf_eq _ 0x1D#8 _ rfl).trans rfl
@[simp] theorem entryOf_oraAbsY (addr : Word) :
    entryOf (.oraAbsY addr) = some ⟨"ORA", .absoluteY, .crossing 4, .f3 .oraAbsY⟩ := (entryOf_eq _ 0x19#8 _ rfl).trans rfl
@[simp] theorem entryOf_oraIndX (b1 : Byte) :
    entryOf (.oraIndX b1) = some ⟨"ORA", .indexedIndirectX, .fixed 6, .f2 .oraIndX⟩ := (entryOf_eq _ 0x01#8 _ rfl).trans rfl
@[simp] theorem entryOf_oraIndY (b1 : Byte) :
    entryOf (.oraIndY b1) = some ⟨"ORA", .indirectIndexedY, .crossing 5, .f2 .oraIndY⟩ := (entryOf_eq _ 0x11#8 _ rfl).trans rfl
@[simp] theorem entryOf_eorImm (b1 : Byte) :
    entryOf (.eorImm b1) = some ⟨"EOR", .immediate, .fixed 2, .f2 .eorImm⟩ := (entryOf_eq _ 0x49#8 _ rfl).trans rfl
@[simp] theorem entryOf_eorZp (b1 : Byte) :
    entryOf (.eorZp b1) = some ⟨"EOR", .zeroPage, .fixed 3, .f2 .eorZp⟩ := (entryOf_eq _ 0x45#8 _ rfl).trans rfl
@[simp] theorem entryOf_eorZpX (b1 : Byte) :
    entryOf (.eorZpX b1) = some ⟨"EOR", .zeroPageX, .fixed 4, .f2 .eorZpX⟩ := (entryOf_eq _ 0x55#8 _ rfl).trans rfl
@[simp] theorem entryOf_eorAbs (addr : Word) :
    entryOf (.eorAbs addr) = some ⟨"EOR", .absolute, .fixed 4, .f3 .eorAbs⟩ := (entryOf_eq _ 0x4D#8 _ rfl).trans rfl
@[simp] theorem entryOf_eorAbsX (addr : Word) :
    entryOf (.eorAbsX addr) = some ⟨"EOR", .absoluteX, .crossing 4, .f3 .eorAbsX⟩ := (entryOf_eq _ 0x5D#8 _ rfl).trans rfl
@[simp] theorem entryOf_eorAbsY (addr : Word) :
    entryOf (.eorAbsY addr) = some ⟨"EOR", .absoluteY, .crossing 4, .f3 .eorAbsY⟩ := (entryOf_eq _ 0x59#8 _ rfl).trans rfl
@[simp] theorem entryOf_eorIndX (b1 : Byte) :
    entryOf (.eorIndX b1) = some ⟨"EOR", .indexedIndirectX, .fixed 6, .f2 .eorIndX⟩ := (entryOf_eq _ 0x41#8 _ rfl).trans rfl
@[simp] theorem entryOf_eorIndY (b1 : Byte) :
    entryOf (.eorIndY b1) = some ⟨"EOR", .indirectIndexedY, .crossing 5, .f2 .eorIndY⟩ := (entryOf_eq _ 0x51#8 _ rfl).trans rfl
@[simp] theorem entryOf_bitZp (b1 : Byte) :
    entryOf (.bitZp b1) = some ⟨"BIT", .zeroPage, .fixed 3, .f2 .bitZp⟩ := (entryOf_eq _ 0x24#8 _ rfl).trans rfl
@[simp] theorem entryOf_bitAbs (addr : Word) :
    entryOf (.bitAbs addr) = some ⟨"BIT", .absolute, .fixed 4, .f3 .bitAbs⟩ := (entryOf_eq _ 0x2C#8 _ rfl).trans rfl
@[simp] theorem entryOf_aslAcc :
    entryOf .aslAcc = some ⟨"ASL", .accumulator, .fixed 2, .f1 .aslAcc⟩ := (entryOf_eq _ 0x0A#8 _ rfl).trans rfl
@[simp] theorem entryOf_aslZp (b1 : Byte) :
    entryOf (.aslZp b1) = some ⟨"ASL", .zeroPage, .fixed 5, .f2 .aslZp⟩ := (entryOf_eq _ 0x06#8 _ rfl).trans rfl
@[simp] theorem entryOf_aslZpX (b1 : Byte) :
    entryOf (.aslZpX b1) = some ⟨"ASL", .zeroPageX, .fixed 6, .f2 .aslZpX⟩ := (entryOf_eq _ 0x16#8 _ rfl).trans rfl
@[simp] theorem entryOf_aslAbs (addr : Word) :
    entryOf (.aslAbs addr) = some ⟨"ASL", .absolute, .fixed 6, .f3 .aslAbs⟩ := (entryOf_eq _ 0x0E#8 _ rfl).trans rfl
@[simp] theorem entryOf_aslAbsX (addr : Word) :
    entryOf (.aslAbsX addr) = some ⟨"ASL", .absoluteX, .fixed 7, .f3 .aslAbsX⟩ := (entryOf_eq _ 0x1E#8 _ rfl).trans rfl
@[simp] theorem entryOf_lsrAcc :
    entryOf .lsrAcc = some ⟨"LSR", .accumulator, .fixed 2, .f1 .lsrAcc⟩ := (entryOf_eq _ 0x4A#8 _ rfl).trans rfl
@[simp] theorem entryOf_lsrZp (b1 : Byte) :
    entryOf (.lsrZp b1) = some ⟨"LSR", .zeroPage, .fixed 5, .f2 .lsrZp⟩ := (entryOf_eq _ 0x46#8 _ rfl).trans rfl
@[simp] theorem entryOf_lsrZpX (b1 : Byte) :
    entryOf (.lsrZpX b1) = some ⟨"LSR", .zeroPageX, .fixed 6, .f2 .lsrZpX⟩ := (entryOf_eq _ 0x56#8 _ rfl).trans rfl
@[simp] theorem entryOf_lsrAbs (addr : Word) :
    entryOf (.lsrAbs addr) = some ⟨"LSR", .absolute, .fixed 6, .f3 .lsrAbs⟩ := (entryOf_eq _ 0x4E#8 _ rfl).trans rfl
@[simp] theorem entryOf_lsrAbsX (addr : Word) :
    entryOf (.lsrAbsX addr) = some ⟨"LSR", .absoluteX, .fixed 7, .f3 .lsrAbsX⟩ := (entryOf_eq _ 0x5E#8 _ rfl).trans rfl
@[simp] theorem entryOf_rolAcc :
    entryOf .rolAcc = some ⟨"ROL", .accumulator, .fixed 2, .f1 .rolAcc⟩ := (entryOf_eq _ 0x2A#8 _ rfl).trans rfl
@[simp] theorem entryOf_rolZp (b1 : Byte) :
    entryOf (.rolZp b1) = some ⟨"ROL", .zeroPage, .fixed 5, .f2 .rolZp⟩ := (entryOf_eq _ 0x26#8 _ rfl).trans rfl
@[simp] theorem entryOf_rolZpX (b1 : Byte) :
    entryOf (.rolZpX b1) = some ⟨"ROL", .zeroPageX, .fixed 6, .f2 .rolZpX⟩ := (entryOf_eq _ 0x36#8 _ rfl).trans rfl
@[simp] theorem entryOf_rolAbs (addr : Word) :
    entryOf (.rolAbs addr) = some ⟨"ROL", .absolute, .fixed 6, .f3 .rolAbs⟩ := (entryOf_eq _ 0x2E#8 _ rfl).trans rfl
@[simp] theorem entryOf_rolAbsX (addr : Word) :
    entryOf (.rolAbsX addr) = some ⟨"ROL", .absoluteX, .fixed 7, .f3 .rolAbsX⟩ := (entryOf_eq _ 0x3E#8 _ rfl).trans rfl
@[simp] theorem entryOf_rorAcc :
    entryOf .rorAcc = some ⟨"ROR", .accumulator, .fixed 2, .f1 .rorAcc⟩ := (entryOf_eq _ 0x6A#8 _ rfl).trans rfl
@[simp] theorem entryOf_rorZp (b1 : Byte) :
    entryOf (.rorZp b1) = some ⟨"ROR", .zeroPage, .fixed 5, .f2 .rorZp⟩ := (entryOf_eq _ 0x66#8 _ rfl).trans rfl
@[simp] theorem entryOf_rorZpX (b1 : Byte) :
    entryOf (.rorZpX b1) = some ⟨"ROR", .zeroPageX, .fixed 6, .f2 .rorZpX⟩ := (entryOf_eq _ 0x76#8 _ rfl).trans rfl
@[simp] theorem entryOf_rorAbs (addr : Word) :
    entryOf (.rorAbs addr) = some ⟨"ROR", .absolute, .fixed 6, .f3 .rorAbs⟩ := (entryOf_eq _ 0x6E#8 _ rfl).trans rfl
@[simp] theorem entryOf_rorAbsX (addr : Word) :
    entryOf (.rorAbsX addr) = some ⟨"ROR", .absoluteX, .fixed 7, .f3 .rorAbsX⟩ := (entryOf_eq _ 0x7E#8 _ rfl).trans rfl
@[simp] theorem entryOf_jmpAbs (addr : Word) :
    entryOf (.jmpAbs addr) = some ⟨"JMP", .absolute, .fixed 3, .f3 .jmpAbs⟩ := (entryOf_eq _ 0x4C#8 _ rfl).trans rfl
@[simp] theorem entryOf_jmpInd (ptr : Word) :
    entryOf (.jmpInd ptr) = some ⟨"JMP", .indirect, .fixed 5, .f3 .jmpInd⟩ := (entryOf_eq _ 0x6C#8 _ rfl).trans rfl
@[simp] theorem entryOf_jsr (addr : Word) :
    entryOf (.jsr addr) = some ⟨"JSR", .absolute, .fixed 6, .f3 .jsr⟩ := (entryOf_eq _ 0x20#8 _ rfl).trans rfl
@[simp] theorem entryOf_rts :
    entryOf .rts = some ⟨"RTS", .implied, .fixed 6, .f1 .rts⟩ := (entryOf_eq _ 0x60#8 _ rfl).trans rfl
@[simp] theorem entryOf_rti :
    entryOf .rti = some ⟨"RTI", .implied, .fixed 6, .f1 .rti⟩ := (entryOf_eq _ 0x40#8 _ rfl).trans rfl
@[simp] theorem entryOf_bcc (disp : Byte) :
    entryOf (.bcc disp) = some ⟨"BCC", .relative, .branch 2, .f2 .bcc⟩ := (entryOf_eq _ 0x90#8 _ rfl).trans rfl
@[simp] theorem entryOf_bcs (disp : Byte) :
    entryOf (.bcs disp) = some ⟨"BCS", .relative, .branch 2, .f2 .bcs⟩ := (entryOf_eq _ 0xB0#8 _ rfl).trans rfl
@[simp] theorem entryOf_beq (disp : Byte) :
    entryOf (.beq disp) = some ⟨"BEQ", .relative, .branch 2, .f2 .beq⟩ := (entryOf_eq _ 0xF0#8 _ rfl).trans rfl
@[simp] theorem entryOf_bne (disp : Byte) :
    entryOf (.bne disp) = some ⟨"BNE", .relative, .branch 2, .f2 .bne⟩ := (entryOf_eq _ 0xD0#8 _ rfl).trans rfl
@[simp] theorem entryOf_bmi (disp : Byte) :
    entryOf (.bmi disp) = some ⟨"BMI", .relative, .branch 2, .f2 .bmi⟩ := (entryOf_eq _ 0x30#8 _ rfl).trans rfl
@[simp] theorem entryOf_bpl (disp : Byte) :
    entryOf (.bpl disp) = some ⟨"BPL", .relative, .branch 2, .f2 .bpl⟩ := (entryOf_eq _ 0x10#8 _ rfl).trans rfl
@[simp] theorem entryOf_bvc (disp : Byte) :
    entryOf (.bvc disp) = some ⟨"BVC", .relative, .branch 2, .f2 .bvc⟩ := (entryOf_eq _ 0x50#8 _ rfl).trans rfl
@[simp] theorem entryOf_bvs (disp : Byte) :
    entryOf (.bvs disp) = some ⟨"BVS", .relative, .branch 2, .f2 .bvs⟩ := (entryOf_eq _ 0x70#8 _ rfl).trans rfl
@[simp] theorem entryOf_clc :
    entryOf .clc = some ⟨"CLC", .implied, .fixed 2, .f1 .clc⟩ := (entryOf_eq _ 0x18#8 _ rfl).trans rfl
@[simp] theorem entryOf_cld :
    entryOf .cld = some ⟨"CLD", .implied, .fixed 2, .f1 .cld⟩ := (entryOf_eq _ 0xD8#8 _ rfl).trans rfl
@[simp] theorem entryOf_cli :
    entryOf .cli = some ⟨"CLI", .implied, .fixed 2, .f1 .cli⟩ := (entryOf_eq _ 0x58#8 _ rfl).trans rfl
@[simp] theorem entryOf_clv :
    entryOf .clv = some ⟨"CLV", .implied, .fixed 2, .f1 .clv⟩ := (entryOf_eq _ 0xB8#8 _ rfl).trans rfl
@[simp] theorem entryOf_sec :
    entryOf .sec = some ⟨"SEC", .implied, .fixed 2, .f1 .sec⟩ := (entryOf_eq _ 0x38#8 _ rfl).trans rfl
@[simp] theorem entryOf_sed :
    entryOf .sed = some ⟨"SED", .implied, .fixed 2, .f1 .sed⟩ := (entryOf_eq _ 0xF8#8 _ rfl).trans rfl
@[simp] theorem entryOf_sei :
    entryOf .sei = some ⟨"SEI", .implied, .fixed 2, .f1 .sei⟩ := (entryOf_eq _ 0x78#8 _ rfl).trans rfl
@[simp] theorem entryOf_nop :
    entryOf .nop = some ⟨"NOP", .implied, .fixed 2, .f1 .nop⟩ := (entryOf_eq _ 0xEA#8 _ rfl).trans rfl
@[simp] theorem entryOf_brk :
    entryOf .brk = some ⟨"BRK", .implied, .fixed 7, .f1 .brk⟩ := (entryOf_eq _ 0x00#8 _ rfl).trans rfl

end Sys2Proof.Laws
end

