-- ==== Sys2Proof/Tests/Slice0.lean ====
section
/-! SUPPORT. The model's own tests. Every expected result is the spec's: the vectors and worked examples of
spec/95_test_vectors.md (each named in its theorem's comment), the encodings of spec/30_encoding.md R101, R131, R134. -/

namespace Sys2Proof.Tests

open Sys2Proof.Machine
open Sys2Proof.Claims

/-- The vectors' default start (95_test_vectors.md L2): A = X = Y = 0, SP = FD, PC = 0600, flags 0, memory 00. -/
def start : State :=
  { a := 0x00#8, x := 0x00#8, y := 0x00#8, sp := 0xFD#8, pc := 0x0600#16,
    c := false, z := false, i := false, d := false, b := false, v := false, n := false,
    mem := [], cfg := { decimalMode := .nmos, jmpIndPageWrap := false } }

/-- Bytes of memory set one by one. -/
def poke (s : State) (cells : List (Word × Byte)) : State := cells.foldl (fun t p => memWrite t p.1 p.2) s

/-- A vector's start: its registers, its memory, and the instruction's bytes at PC. -/
def setUp (bytes : List Byte) (regs : State → State) (cells : List (Word × Byte)) : State :=
  placeAtPc (poke (regs start) cells) 0 bytes

/-- The outcome is this next state. -/
def isNext (r : Result) (t : State) : Bool :=
  match r with
  | .next u => u == t
  | .fault _ => false
  | .refused _ => false

/-- The outcome is this fault. -/
def isFault (r : Result) (f : Fault) : Bool :=
  match r with
  | .next _ => false
  | .fault g => g == f
  | .refused _ => false

/-- One vector: the step gives the start state with the listed registers and writes and nothing else, in so many cycles. -/
def runs (bytes : List Byte) (regs : State → State) (cells : List (Word × Byte))
    (after : State → State) (writes : List (Word × Byte)) (cycleCount : Nat) : Bool :=
  let s := setUp bytes regs cells
  isNext (step s) (after (poke s writes)) && stepResult s == .executed cycleCount

/-- An illegal-opcode vector: the fault and the result name the opcode, and the state stays. -/
def faultsAs (bytes : List Byte) (regs : State → State) (cells : List (Word × Byte)) (op : Byte) : Bool :=
  let s := setUp bytes regs cells
  isFault (step s) (.illegalOpcode op) && stepResult s == .illegalOpcode op && afterTransaction .step s == s

/-- The bytes decode to the instruction with nothing left, and encode gives them back. -/
def codes (bytes : List Byte) (i : Instr) : Bool := decodeBytes bytes == .instr i [] && encode i == bytes

/-! ### Well-formedness: each check refuses a term -/

/-- R100: an instruction has an opcode byte. -/
theorem test_image_refuses_no_byte : wellFormedImage [] = false := by decide

/-- R132: 0x02 is illegal. -/
theorem test_image_refuses_illegal_opcode : wellFormedImage [0x02#8] = false := by decide

/-- R101: LDA # has one operand byte, JMP two. -/
theorem test_image_refuses_truncated : (wellFormedImage [0xA9#8] || wellFormedImage [0x4C#8, 0x00#8]) = false := by decide

/-- R101: NOP has no operand byte. -/
theorem test_image_refuses_left_over : wellFormedImage [0xEA#8, 0xEA#8] = false := by decide

/-- R133: every operand value is legal. -/
theorem test_image_accepts_any_operand : (wellFormedImage [0xA9#8, 0xFF#8] && wellFormedImage [0x6C#8, 0xFF#8, 0xFF#8]) = true := by
  decide

/-! ### The opcode table (R130, R131, R132) -/

/-- Sixteen rows of sixteen entries, 151 of them assigned. -/
theorem test_table_has_151_assigned :
    (opcodeRows.length == 16 && opcodeRows.all (fun row => row.length == 16) &&
      (opcodeRows.map (fun row => (row.filter (fun e => e.isSome)).length)).sum == 151) = true := by decide

/-- R132's list has 105 opcodes, and each has no entry. -/
theorem test_table_listed_opcodes_have_no_entry :
    (illegalOpcodes.length == 105 && illegalOpcodes.all (fun op => (opcodeEntry op).isNone)) = true := by decide

/-! ### Every encoding, written from R101 and R131 -/

theorem test_code_lda :
    (codes [0xA9#8, 0x9C#8] (.ldaImm 0x9C#8) &&
      codes [0xA5#8, 0x9C#8] (.ldaZp 0x9C#8) &&
      codes [0xB5#8, 0x9C#8] (.ldaZpX 0x9C#8) &&
      codes [0xAD#8, 0x34#8, 0x12#8] (.ldaAbs 0x1234#16) &&
      codes [0xBD#8, 0x34#8, 0x12#8] (.ldaAbsX 0x1234#16) &&
      codes [0xB9#8, 0x34#8, 0x12#8] (.ldaAbsY 0x1234#16) &&
      codes [0xA1#8, 0x9C#8] (.ldaIndX 0x9C#8) &&
      codes [0xB1#8, 0x9C#8] (.ldaIndY 0x9C#8)) = true := by decide

theorem test_code_ldx :
    (codes [0xA2#8, 0x9C#8] (.ldxImm 0x9C#8) &&
      codes [0xA6#8, 0x9C#8] (.ldxZp 0x9C#8) &&
      codes [0xB6#8, 0x9C#8] (.ldxZpY 0x9C#8) &&
      codes [0xAE#8, 0x34#8, 0x12#8] (.ldxAbs 0x1234#16) &&
      codes [0xBE#8, 0x34#8, 0x12#8] (.ldxAbsY 0x1234#16)) = true := by decide

theorem test_code_ldy :
    (codes [0xA0#8, 0x9C#8] (.ldyImm 0x9C#8) &&
      codes [0xA4#8, 0x9C#8] (.ldyZp 0x9C#8) &&
      codes [0xB4#8, 0x9C#8] (.ldyZpX 0x9C#8) &&
      codes [0xAC#8, 0x34#8, 0x12#8] (.ldyAbs 0x1234#16) &&
      codes [0xBC#8, 0x34#8, 0x12#8] (.ldyAbsX 0x1234#16)) = true := by decide

theorem test_code_sta :
    (codes [0x85#8, 0x9C#8] (.staZp 0x9C#8) &&
      codes [0x95#8, 0x9C#8] (.staZpX 0x9C#8) &&
      codes [0x8D#8, 0x34#8, 0x12#8] (.staAbs 0x1234#16) &&
      codes [0x9D#8, 0x34#8, 0x12#8] (.staAbsX 0x1234#16) &&
      codes [0x99#8, 0x34#8, 0x12#8] (.staAbsY 0x1234#16) &&
      codes [0x81#8, 0x9C#8] (.staIndX 0x9C#8) &&
      codes [0x91#8, 0x9C#8] (.staIndY 0x9C#8)) = true := by decide

theorem test_code_stx :
    (codes [0x86#8, 0x9C#8] (.stxZp 0x9C#8) &&
      codes [0x96#8, 0x9C#8] (.stxZpY 0x9C#8) &&
      codes [0x8E#8, 0x34#8, 0x12#8] (.stxAbs 0x1234#16)) = true := by decide

theorem test_code_sty :
    (codes [0x84#8, 0x9C#8] (.styZp 0x9C#8) &&
      codes [0x94#8, 0x9C#8] (.styZpX 0x9C#8) &&
      codes [0x8C#8, 0x34#8, 0x12#8] (.styAbs 0x1234#16)) = true := by decide

theorem test_code_tax :
    (codes [0xAA#8] .tax) = true := by decide

theorem test_code_tay :
    (codes [0xA8#8] .tay) = true := by decide

theorem test_code_txa :
    (codes [0x8A#8] .txa) = true := by decide

theorem test_code_tya :
    (codes [0x98#8] .tya) = true := by decide

theorem test_code_tsx :
    (codes [0xBA#8] .tsx) = true := by decide

theorem test_code_txs :
    (codes [0x9A#8] .txs) = true := by decide

theorem test_code_pha :
    (codes [0x48#8] .pha) = true := by decide

theorem test_code_php :
    (codes [0x08#8] .php) = true := by decide

theorem test_code_pla :
    (codes [0x68#8] .pla) = true := by decide

theorem test_code_plp :
    (codes [0x28#8] .plp) = true := by decide

theorem test_code_adc :
    (codes [0x69#8, 0x9C#8] (.adcImm 0x9C#8) &&
      codes [0x65#8, 0x9C#8] (.adcZp 0x9C#8) &&
      codes [0x75#8, 0x9C#8] (.adcZpX 0x9C#8) &&
      codes [0x6D#8, 0x34#8, 0x12#8] (.adcAbs 0x1234#16) &&
      codes [0x7D#8, 0x34#8, 0x12#8] (.adcAbsX 0x1234#16) &&
      codes [0x79#8, 0x34#8, 0x12#8] (.adcAbsY 0x1234#16) &&
      codes [0x61#8, 0x9C#8] (.adcIndX 0x9C#8) &&
      codes [0x71#8, 0x9C#8] (.adcIndY 0x9C#8)) = true := by decide

theorem test_code_sbc :
    (codes [0xE9#8, 0x9C#8] (.sbcImm 0x9C#8) &&
      codes [0xE5#8, 0x9C#8] (.sbcZp 0x9C#8) &&
      codes [0xF5#8, 0x9C#8] (.sbcZpX 0x9C#8) &&
      codes [0xED#8, 0x34#8, 0x12#8] (.sbcAbs 0x1234#16) &&
      codes [0xFD#8, 0x34#8, 0x12#8] (.sbcAbsX 0x1234#16) &&
      codes [0xF9#8, 0x34#8, 0x12#8] (.sbcAbsY 0x1234#16) &&
      codes [0xE1#8, 0x9C#8] (.sbcIndX 0x9C#8) &&
      codes [0xF1#8, 0x9C#8] (.sbcIndY 0x9C#8)) = true := by decide

theorem test_code_cmp :
    (codes [0xC9#8, 0x9C#8] (.cmpImm 0x9C#8) &&
      codes [0xC5#8, 0x9C#8] (.cmpZp 0x9C#8) &&
      codes [0xD5#8, 0x9C#8] (.cmpZpX 0x9C#8) &&
      codes [0xCD#8, 0x34#8, 0x12#8] (.cmpAbs 0x1234#16) &&
      codes [0xDD#8, 0x34#8, 0x12#8] (.cmpAbsX 0x1234#16) &&
      codes [0xD9#8, 0x34#8, 0x12#8] (.cmpAbsY 0x1234#16) &&
      codes [0xC1#8, 0x9C#8] (.cmpIndX 0x9C#8) &&
      codes [0xD1#8, 0x9C#8] (.cmpIndY 0x9C#8)) = true := by decide

theorem test_code_cpx :
    (codes [0xE0#8, 0x9C#8] (.cpxImm 0x9C#8) &&
      codes [0xE4#8, 0x9C#8] (.cpxZp 0x9C#8) &&
      codes [0xEC#8, 0x34#8, 0x12#8] (.cpxAbs 0x1234#16)) = true := by decide

theorem test_code_cpy :
    (codes [0xC0#8, 0x9C#8] (.cpyImm 0x9C#8) &&
      codes [0xC4#8, 0x9C#8] (.cpyZp 0x9C#8) &&
      codes [0xCC#8, 0x34#8, 0x12#8] (.cpyAbs 0x1234#16)) = true := by decide

theorem test_code_inc :
    (codes [0xE6#8, 0x9C#8] (.incZp 0x9C#8) &&
      codes [0xF6#8, 0x9C#8] (.incZpX 0x9C#8) &&
      codes [0xEE#8, 0x34#8, 0x12#8] (.incAbs 0x1234#16) &&
      codes [0xFE#8, 0x34#8, 0x12#8] (.incAbsX 0x1234#16)) = true := by decide

theorem test_code_dec :
    (codes [0xC6#8, 0x9C#8] (.decZp 0x9C#8) &&
      codes [0xD6#8, 0x9C#8] (.decZpX 0x9C#8) &&
      codes [0xCE#8, 0x34#8, 0x12#8] (.decAbs 0x1234#16) &&
      codes [0xDE#8, 0x34#8, 0x12#8] (.decAbsX 0x1234#16)) = true := by decide

theorem test_code_inx :
    (codes [0xE8#8] .inx) = true := by decide

theorem test_code_iny :
    (codes [0xC8#8] .iny) = true := by decide

theorem test_code_dex :
    (codes [0xCA#8] .dex) = true := by decide

theorem test_code_dey :
    (codes [0x88#8] .dey) = true := by decide

theorem test_code_and :
    (codes [0x29#8, 0x9C#8] (.andImm 0x9C#8) &&
      codes [0x25#8, 0x9C#8] (.andZp 0x9C#8) &&
      codes [0x35#8, 0x9C#8] (.andZpX 0x9C#8) &&
      codes [0x2D#8, 0x34#8, 0x12#8] (.andAbs 0x1234#16) &&
      codes [0x3D#8, 0x34#8, 0x12#8] (.andAbsX 0x1234#16) &&
      codes [0x39#8, 0x34#8, 0x12#8] (.andAbsY 0x1234#16) &&
      codes [0x21#8, 0x9C#8] (.andIndX 0x9C#8) &&
      codes [0x31#8, 0x9C#8] (.andIndY 0x9C#8)) = true := by decide

theorem test_code_ora :
    (codes [0x09#8, 0x9C#8] (.oraImm 0x9C#8) &&
      codes [0x05#8, 0x9C#8] (.oraZp 0x9C#8) &&
      codes [0x15#8, 0x9C#8] (.oraZpX 0x9C#8) &&
      codes [0x0D#8, 0x34#8, 0x12#8] (.oraAbs 0x1234#16) &&
      codes [0x1D#8, 0x34#8, 0x12#8] (.oraAbsX 0x1234#16) &&
      codes [0x19#8, 0x34#8, 0x12#8] (.oraAbsY 0x1234#16) &&
      codes [0x01#8, 0x9C#8] (.oraIndX 0x9C#8) &&
      codes [0x11#8, 0x9C#8] (.oraIndY 0x9C#8)) = true := by decide

theorem test_code_eor :
    (codes [0x49#8, 0x9C#8] (.eorImm 0x9C#8) &&
      codes [0x45#8, 0x9C#8] (.eorZp 0x9C#8) &&
      codes [0x55#8, 0x9C#8] (.eorZpX 0x9C#8) &&
      codes [0x4D#8, 0x34#8, 0x12#8] (.eorAbs 0x1234#16) &&
      codes [0x5D#8, 0x34#8, 0x12#8] (.eorAbsX 0x1234#16) &&
      codes [0x59#8, 0x34#8, 0x12#8] (.eorAbsY 0x1234#16) &&
      codes [0x41#8, 0x9C#8] (.eorIndX 0x9C#8) &&
      codes [0x51#8, 0x9C#8] (.eorIndY 0x9C#8)) = true := by decide

theorem test_code_bit :
    (codes [0x24#8, 0x9C#8] (.bitZp 0x9C#8) &&
      codes [0x2C#8, 0x34#8, 0x12#8] (.bitAbs 0x1234#16)) = true := by decide

theorem test_code_asl :
    (codes [0x0A#8] .aslAcc &&
      codes [0x06#8, 0x9C#8] (.aslZp 0x9C#8) &&
      codes [0x16#8, 0x9C#8] (.aslZpX 0x9C#8) &&
      codes [0x0E#8, 0x34#8, 0x12#8] (.aslAbs 0x1234#16) &&
      codes [0x1E#8, 0x34#8, 0x12#8] (.aslAbsX 0x1234#16)) = true := by decide

theorem test_code_lsr :
    (codes [0x4A#8] .lsrAcc &&
      codes [0x46#8, 0x9C#8] (.lsrZp 0x9C#8) &&
      codes [0x56#8, 0x9C#8] (.lsrZpX 0x9C#8) &&
      codes [0x4E#8, 0x34#8, 0x12#8] (.lsrAbs 0x1234#16) &&
      codes [0x5E#8, 0x34#8, 0x12#8] (.lsrAbsX 0x1234#16)) = true := by decide

theorem test_code_rol :
    (codes [0x2A#8] .rolAcc &&
      codes [0x26#8, 0x9C#8] (.rolZp 0x9C#8) &&
      codes [0x36#8, 0x9C#8] (.rolZpX 0x9C#8) &&
      codes [0x2E#8, 0x34#8, 0x12#8] (.rolAbs 0x1234#16) &&
      codes [0x3E#8, 0x34#8, 0x12#8] (.rolAbsX 0x1234#16)) = true := by decide

theorem test_code_ror :
    (codes [0x6A#8] .rorAcc &&
      codes [0x66#8, 0x9C#8] (.rorZp 0x9C#8) &&
      codes [0x76#8, 0x9C#8] (.rorZpX 0x9C#8) &&
      codes [0x6E#8, 0x34#8, 0x12#8] (.rorAbs 0x1234#16) &&
      codes [0x7E#8, 0x34#8, 0x12#8] (.rorAbsX 0x1234#16)) = true := by decide

theorem test_code_jmp :
    (codes [0x4C#8, 0x34#8, 0x12#8] (.jmpAbs 0x1234#16) &&
      codes [0x6C#8, 0x34#8, 0x12#8] (.jmpInd 0x1234#16)) = true := by decide

theorem test_code_jsr :
    (codes [0x20#8, 0x34#8, 0x12#8] (.jsr 0x1234#16)) = true := by decide

theorem test_code_rts :
    (codes [0x60#8] .rts) = true := by decide

theorem test_code_rti :
    (codes [0x40#8] .rti) = true := by decide

theorem test_code_bcc :
    (codes [0x90#8, 0x9C#8] (.bcc 0x9C#8)) = true := by decide

theorem test_code_bcs :
    (codes [0xB0#8, 0x9C#8] (.bcs 0x9C#8)) = true := by decide

theorem test_code_beq :
    (codes [0xF0#8, 0x9C#8] (.beq 0x9C#8)) = true := by decide

theorem test_code_bne :
    (codes [0xD0#8, 0x9C#8] (.bne 0x9C#8)) = true := by decide

theorem test_code_bmi :
    (codes [0x30#8, 0x9C#8] (.bmi 0x9C#8)) = true := by decide

theorem test_code_bpl :
    (codes [0x10#8, 0x9C#8] (.bpl 0x9C#8)) = true := by decide

theorem test_code_bvc :
    (codes [0x50#8, 0x9C#8] (.bvc 0x9C#8)) = true := by decide

theorem test_code_bvs :
    (codes [0x70#8, 0x9C#8] (.bvs 0x9C#8)) = true := by decide

theorem test_code_clc :
    (codes [0x18#8] .clc) = true := by decide

theorem test_code_cld :
    (codes [0xD8#8] .cld) = true := by decide

theorem test_code_cli :
    (codes [0x58#8] .cli) = true := by decide

theorem test_code_clv :
    (codes [0xB8#8] .clv) = true := by decide

theorem test_code_sec :
    (codes [0x38#8] .sec) = true := by decide

theorem test_code_sed :
    (codes [0xF8#8] .sed) = true := by decide

theorem test_code_sei :
    (codes [0x78#8] .sei) = true := by decide

theorem test_code_nop :
    (codes [0xEA#8] .nop) = true := by decide

theorem test_code_brk :
    (codes [0x00#8] .brk) = true := by decide

/-! ### One step each: the vectors of 95_test_vectors.md -/

/-- LDA: vectors LS-1, LS-2, LS-3. -/
theorem test_ldaImm :
    (runs [0xA9#8, 0x00#8] (fun s => { s with z := false, n := true }) [] (fun s => { s with pc := 0x0602#16, n := false, z := true }) [] 2 &&
      runs [0xA9#8, 0x80#8] (fun s => { s with z := true }) [] (fun s => { s with a := 0x80#8, pc := 0x0602#16, n := true, z := false }) [] 2 &&
      runs [0xA9#8, 0x7F#8] (fun s => { s with z := true, n := true }) [] (fun s => { s with a := 0x7F#8, pc := 0x0602#16, n := false, z := false }) [] 2) = true := by decide

/-- LDA: vectors RES-1. -/
theorem test_ldaZp :
    (runs [0xA5#8, 0x10#8] id [(0x0010#16, 0x42#8)] (fun s => { s with a := 0x42#8, pc := 0x0602#16 }) [] 3) = true := by decide

/-- LDA: vectors RES-2. -/
theorem test_ldaZpX :
    (runs [0xB5#8, 0xFE#8] (fun s => { s with x := 0x05#8 }) [(0x0003#16, 0x99#8)] (fun s => { s with a := 0x99#8, pc := 0x0602#16, n := true }) [] 4) = true := by decide

/-- LDA: vectors RES-4. -/
theorem test_ldaAbs :
    (runs [0xAD#8, 0x34#8, 0x12#8] id [(0x1234#16, 0x00#8)] (fun s => { s with pc := 0x0603#16, z := true }) [] 4) = true := by decide

/-- LDA: vectors RES-5, RES-6. -/
theorem test_ldaAbsX :
    (runs [0xBD#8, 0xFF#8, 0x12#8] (fun s => { s with x := 0x01#8 }) [(0x1300#16, 0x7F#8)] (fun s => { s with a := 0x7F#8, pc := 0x0603#16 }) [] 5 &&
      runs [0xBD#8, 0xFF#8, 0xFF#8] (fun s => { s with x := 0x02#8 }) [(0x0001#16, 0x11#8)] (fun s => { s with a := 0x11#8, pc := 0x0603#16 }) [] 5) = true := by decide

/-- LDA: vectors RES-7. -/
theorem test_ldaAbsY :
    (runs [0xB9#8, 0x80#8, 0x00#8] (fun s => { s with y := 0xFF#8 }) [(0x017F#16, 0x80#8)] (fun s => { s with a := 0x80#8, pc := 0x0603#16, n := true }) [] 5) = true := by decide

/-- LDA: vectors RES-8, RES-9. -/
theorem test_ldaIndX :
    (runs [0xA1#8, 0x20#8] (fun s => { s with x := 0x04#8 }) [(0x0024#16, 0x00#8), (0x0025#16, 0x30#8), (0x3000#16, 0x77#8)] (fun s => { s with a := 0x77#8, pc := 0x0602#16 }) [] 6 &&
      runs [0xA1#8, 0xFE#8] (fun s => { s with x := 0x01#8 }) [(0x0000#16, 0x40#8), (0x00FF#16, 0x00#8), (0x4000#16, 0x5A#8)] (fun s => { s with a := 0x5A#8, pc := 0x0602#16 }) [] 6) = true := by decide

/-- LDA: vectors RES-10, RES-11, RES-12. -/
theorem test_ldaIndY :
    (runs [0xB1#8, 0x40#8] (fun s => { s with y := 0x10#8 }) [(0x0040#16, 0xF8#8), (0x0041#16, 0x12#8), (0x1308#16, 0x33#8)] (fun s => { s with a := 0x33#8, pc := 0x0602#16 }) [] 6 &&
      runs [0xB1#8, 0xFF#8] (fun s => { s with y := 0x00#8 }) [(0x0000#16, 0x20#8), (0x00FF#16, 0x00#8), (0x2000#16, 0x01#8)] (fun s => { s with a := 0x01#8, pc := 0x0602#16 }) [] 5 &&
      runs [0xB1#8, 0x40#8] (fun s => { s with y := 0x02#8 }) [(0x0001#16, 0xC3#8), (0x0040#16, 0xFF#8), (0x0041#16, 0xFF#8)] (fun s => { s with a := 0xC3#8, pc := 0x0602#16, n := true }) [] 6) = true := by decide

/-- LDX: vectors LS-4. -/
theorem test_ldxImm :
    (runs [0xA2#8, 0xFF#8] id [] (fun s => { s with x := 0xFF#8, pc := 0x0602#16, n := true }) [] 2) = true := by decide

/-- LDX: vectors RES-3. -/
theorem test_ldxZpY :
    (runs [0xB6#8, 0xF8#8] (fun s => { s with y := 0x10#8 }) [(0x0008#16, 0x01#8)] (fun s => { s with x := 0x01#8, pc := 0x0602#16 }) [] 4) = true := by decide

/-- LDY: vectors LS-5. -/
theorem test_ldyZp :
    (runs [0xA4#8, 0x10#8] (fun s => { s with y := 0x33#8 }) [(0x0010#16, 0x00#8)] (fun s => { s with y := 0x00#8, pc := 0x0602#16, z := true }) [] 3) = true := by decide

/-- LDY: vectors LS-6. -/
theorem test_ldyAbsX :
    (runs [0xBC#8, 0x00#8, 0x02#8] (fun s => { s with x := 0x01#8 }) [(0x0201#16, 0x90#8)] (fun s => { s with y := 0x90#8, pc := 0x0603#16, n := true }) [] 4) = true := by decide

/-- STA: vectors LS-7. -/
theorem test_staAbs :
    (runs [0x8D#8, 0x00#8, 0x02#8] (fun s => { s with a := 0x00#8, z := false, n := true }) [] (fun s => { s with pc := 0x0603#16 }) [(0x0200#16, 0x00#8)] 4) = true := by decide

/-- STA: vectors LS-8. -/
theorem test_staAbsX :
    (runs [0x9D#8, 0x01#8, 0xFF#8] (fun s => { s with a := 0x12#8, x := 0xFF#8 }) [] (fun s => { s with pc := 0x0603#16 }) [(0x0000#16, 0x12#8)] 5) = true := by decide

/-- STA: vectors LS-9. -/
theorem test_staIndY :
    (runs [0x91#8, 0x40#8] (fun s => { s with a := 0x12#8, y := 0x10#8 }) [(0x0040#16, 0xF8#8), (0x0041#16, 0x12#8)] (fun s => { s with pc := 0x0602#16 }) [(0x1308#16, 0x12#8)] 6) = true := by decide

/-- STX: vectors LS-10. -/
theorem test_stxZpY :
    (runs [0x96#8, 0xFF#8] (fun s => { s with x := 0xAB#8, y := 0x02#8 }) [] (fun s => { s with pc := 0x0602#16 }) [(0x0001#16, 0xAB#8)] 4) = true := by decide

/-- STY: vectors LS-11. -/
theorem test_styZpX :
    (runs [0x94#8, 0x80#8] (fun s => { s with y := 0xCD#8, x := 0x81#8 }) [] (fun s => { s with pc := 0x0602#16 }) [(0x0001#16, 0xCD#8)] 4) = true := by decide

/-- TAX: vectors TS-1. -/
theorem test_tax :
    (runs [0xAA#8] (fun s => { s with a := 0x00#8, x := 0x55#8 }) [] (fun s => { s with x := 0x00#8, pc := 0x0601#16, z := true }) [] 2) = true := by decide

/-- TAY: vectors TS-2. -/
theorem test_tay :
    (runs [0xA8#8] (fun s => { s with a := 0x80#8 }) [] (fun s => { s with y := 0x80#8, pc := 0x0601#16, n := true }) [] 2) = true := by decide

/-- TXA: vectors TS-3. -/
theorem test_txa :
    (runs [0x8A#8] (fun s => { s with x := 0x01#8, a := 0xFF#8, n := true }) [] (fun s => { s with a := 0x01#8, pc := 0x0601#16, n := false }) [] 2) = true := by decide

/-- TYA: vectors TS-4. -/
theorem test_tya :
    (runs [0x98#8] (fun s => { s with y := 0x00#8, a := 0x10#8 }) [] (fun s => { s with a := 0x00#8, pc := 0x0601#16, z := true }) [] 2) = true := by decide

/-- TSX: vectors TS-5. -/
theorem test_tsx :
    (runs [0xBA#8] (fun s => { s with sp := 0xFD#8 }) [] (fun s => { s with x := 0xFD#8, pc := 0x0601#16, n := true }) [] 2) = true := by decide

/-- TXS: vectors TS-6. -/
theorem test_txs :
    (runs [0x9A#8] (fun s => { s with x := 0x00#8, sp := 0xFD#8, z := false, n := true }) [] (fun s => { s with sp := 0x00#8, pc := 0x0601#16 }) [] 2) = true := by decide

/-- PHA: vectors TS-7. -/
theorem test_pha :
    (runs [0x48#8] (fun s => { s with a := 0x42#8, sp := 0x00#8 }) [] (fun s => { s with sp := 0xFF#8, pc := 0x0601#16 }) [(0x0100#16, 0x42#8)] 3) = true := by decide

/-- PHP: vectors TS-8, TS-9. -/
theorem test_php :
    (runs [0x08#8] (fun s => { s with sp := 0xFD#8, n := true, v := false, b := false, d := false, i := true, z := false, c := true }) [] (fun s => { s with sp := 0xFC#8, pc := 0x0601#16 }) [(0x01FD#16, 0xA5#8)] 3 &&
      runs [0x08#8] (fun s => { s with sp := 0xFD#8, b := true }) [] (fun s => { s with sp := 0xFC#8, pc := 0x0601#16 }) [(0x01FD#16, 0x30#8)] 3) = true := by decide

/-- PLA: vectors TS-10. -/
theorem test_pla :
    (runs [0x68#8] (fun s => { s with sp := 0xFF#8 }) [(0x0100#16, 0x80#8)] (fun s => { s with a := 0x80#8, sp := 0x00#8, pc := 0x0601#16, n := true }) [] 4) = true := by decide

/-- PLP: vectors TS-11, TS-12. -/
theorem test_plp :
    (runs [0x28#8] (fun s => { s with sp := 0xFC#8 }) [(0x01FD#16, 0xFF#8)] (fun s => { s with sp := 0xFD#8, pc := 0x0601#16, n := true, v := true, b := true, d := true, i := true, z := true, c := true }) [] 4 &&
      runs [0x28#8] (fun s => { s with sp := 0xFC#8, n := true, v := true, b := true, d := true, i := true, z := true, c := true }) [(0x01FD#16, 0x20#8)] (fun s => { s with sp := 0xFD#8, pc := 0x0601#16, n := false, v := false, b := false, d := false, i := false, z := false, c := false }) [] 4) = true := by decide

/-- ADC: vectors AR-1, AR-2, AR-3, AR-4, AR-5, AR-11, AR-12, AR-13, AR-14, AR-15, AR-16. -/
theorem test_adcImm :
    (runs [0x69#8, 0x50#8] (fun s => { s with a := 0x50#8, c := false }) [] (fun s => { s with a := 0xA0#8, pc := 0x0602#16, n := true, v := true }) [] 2 &&
      runs [0x69#8, 0x01#8] (fun s => { s with a := 0xFF#8, c := false }) [] (fun s => { s with a := 0x00#8, pc := 0x0602#16, z := true, c := true }) [] 2 &&
      runs [0x69#8, 0xFF#8] (fun s => { s with a := 0x80#8, c := false }) [] (fun s => { s with a := 0x7F#8, pc := 0x0602#16, v := true, c := true }) [] 2 &&
      runs [0x69#8, 0x01#8] (fun s => { s with a := 0x01#8, c := true }) [] (fun s => { s with a := 0x03#8, pc := 0x0602#16, c := false }) [] 2 &&
      runs [0x69#8, 0x00#8] (fun s => { s with a := 0x7F#8, c := true }) [] (fun s => { s with a := 0x80#8, pc := 0x0602#16, n := true, v := true, c := false }) [] 2 &&
      runs [0x69#8, 0x46#8] (fun s => { s with a := 0x58#8, c := false, d := true }) [] (fun s => { s with a := 0x04#8, pc := 0x0602#16, n := true, v := true, c := true }) [] 2 &&
      runs [0x69#8, 0x01#8] (fun s => { s with a := 0x09#8, c := false, d := true }) [] (fun s => { s with a := 0x10#8, pc := 0x0602#16 }) [] 2 &&
      runs [0x69#8, 0x01#8] (fun s => { s with a := 0x99#8, c := false, d := true }) [] (fun s => { s with a := 0x00#8, pc := 0x0602#16, n := true, c := true }) [] 2 &&
      runs [0x69#8, 0x00#8] (fun s => { s with a := 0x79#8, c := true, d := true }) [] (fun s => { s with a := 0x80#8, pc := 0x0602#16, n := true, v := true, c := false }) [] 2 &&
      runs [0x69#8, 0x01#8] (fun s => { s with a := 0x0F#8, c := false, d := true }) [] (fun s => { s with a := 0x16#8, pc := 0x0602#16 }) [] 2 &&
      runs [0x69#8, 0x46#8] (fun s => { s with a := 0x58#8, c := false, d := true, cfg := { s.cfg with decimalMode := .binary } }) [] (fun s => { s with a := 0x9E#8, pc := 0x0602#16, n := true, v := true }) [] 2) = true := by decide

/-- ADC: vectors AR-21. -/
theorem test_adcZpX :
    (runs [0x75#8, 0x10#8] (fun s => { s with a := 0x10#8, c := false, x := 0x02#8 }) [(0x0012#16, 0x22#8)] (fun s => { s with a := 0x32#8, pc := 0x0602#16 }) [] 4) = true := by decide

/-- SBC: vectors AR-6, AR-7, AR-8, AR-9, AR-10, AR-17, AR-18, AR-19, AR-20. -/
theorem test_sbcImm :
    (runs [0xE9#8, 0x03#8] (fun s => { s with a := 0x05#8, c := true }) [] (fun s => { s with a := 0x02#8, pc := 0x0602#16 }) [] 2 &&
      runs [0xE9#8, 0x05#8] (fun s => { s with a := 0x03#8, c := true }) [] (fun s => { s with a := 0xFE#8, pc := 0x0602#16, n := true, c := false }) [] 2 &&
      runs [0xE9#8, 0x01#8] (fun s => { s with a := 0x80#8, c := true }) [] (fun s => { s with a := 0x7F#8, pc := 0x0602#16, v := true }) [] 2 &&
      runs [0xE9#8, 0x00#8] (fun s => { s with a := 0x00#8, c := false }) [] (fun s => { s with a := 0xFF#8, pc := 0x0602#16, n := true }) [] 2 &&
      runs [0xE9#8, 0xB0#8] (fun s => { s with a := 0x50#8, c := true }) [] (fun s => { s with a := 0xA0#8, pc := 0x0602#16, n := true, v := true, c := false }) [] 2 &&
      runs [0xE9#8, 0x01#8] (fun s => { s with a := 0x00#8, c := true, d := true }) [] (fun s => { s with a := 0x99#8, pc := 0x0602#16, n := true, c := false }) [] 2 &&
      runs [0xE9#8, 0x12#8] (fun s => { s with a := 0x46#8, c := true, d := true }) [] (fun s => { s with a := 0x34#8, pc := 0x0602#16 }) [] 2 &&
      runs [0xE9#8, 0x13#8] (fun s => { s with a := 0x40#8, c := true, d := true }) [] (fun s => { s with a := 0x27#8, pc := 0x0602#16 }) [] 2 &&
      runs [0xE9#8, 0x02#8] (fun s => { s with a := 0x32#8, c := false, d := true }) [] (fun s => { s with a := 0x29#8, pc := 0x0602#16, c := true }) [] 2) = true := by decide

/-- CMP: vectors CI-3, CI-4, CI-5. -/
theorem test_cmpImm :
    (runs [0xC9#8, 0x20#8] (fun s => { s with a := 0x10#8 }) [] (fun s => { s with pc := 0x0602#16, n := true }) [] 2 &&
      runs [0xC9#8, 0x00#8] (fun s => { s with a := 0x80#8 }) [] (fun s => { s with pc := 0x0602#16, n := true, c := true }) [] 2 &&
      runs [0xC9#8, 0x01#8] (fun s => { s with a := 0x00#8, d := true }) [] (fun s => { s with pc := 0x0602#16, n := true }) [] 2) = true := by decide

/-- CPX: vectors CI-1, CI-2. -/
theorem test_cpxImm :
    (runs [0xE0#8, 0x05#8] (fun s => { s with x := 0x05#8 }) [] (fun s => { s with pc := 0x0602#16, z := true, c := true }) [] 2 &&
      runs [0xE0#8, 0x05#8] (fun s => { s with x := 0x03#8 }) [] (fun s => { s with pc := 0x0602#16, n := true }) [] 2) = true := by decide

/-- CPY: vectors CI-6. -/
theorem test_cpyZp :
    (runs [0xC4#8, 0x44#8] (fun s => { s with y := 0x09#8 }) [(0x0044#16, 0x03#8)] (fun s => { s with pc := 0x0602#16, c := true }) [] 3) = true := by decide

/-- INC: vectors CI-7. -/
theorem test_incZp :
    (runs [0xE6#8, 0x10#8] (fun s => { s with c := true, v := true }) [(0x0010#16, 0xFF#8)] (fun s => { s with pc := 0x0602#16, z := true }) [(0x0010#16, 0x00#8)] 5) = true := by decide

/-- INC: vectors CI-8. -/
theorem test_incZpX :
    (runs [0xF6#8, 0x10#8] (fun s => { s with x := 0x01#8 }) [(0x0011#16, 0x7F#8)] (fun s => { s with pc := 0x0602#16, n := true }) [(0x0011#16, 0x80#8)] 6) = true := by decide

/-- DEC: vectors CI-9. -/
theorem test_decAbs :
    (runs [0xCE#8, 0x00#8, 0x03#8] id [(0x0300#16, 0x00#8)] (fun s => { s with pc := 0x0603#16, n := true }) [(0x0300#16, 0xFF#8)] 6) = true := by decide

/-- INX: vectors CI-10, CI-14. -/
theorem test_inx :
    (runs [0xE8#8] (fun s => { s with x := 0xFF#8 }) [] (fun s => { s with x := 0x00#8, pc := 0x0601#16, z := true }) [] 2 &&
      runs [0xE8#8] (fun s => { s with x := 0x09#8, d := true }) [] (fun s => { s with x := 0x0A#8, pc := 0x0601#16 }) [] 2) = true := by decide

/-- INY: vectors CI-11. -/
theorem test_iny :
    (runs [0xC8#8] (fun s => { s with y := 0x7F#8 }) [] (fun s => { s with y := 0x80#8, pc := 0x0601#16, n := true }) [] 2) = true := by decide

/-- DEX: vectors CI-12. -/
theorem test_dex :
    (runs [0xCA#8] (fun s => { s with x := 0x00#8 }) [] (fun s => { s with x := 0xFF#8, pc := 0x0601#16, n := true }) [] 2) = true := by decide

/-- DEY: vectors CI-13. -/
theorem test_dey :
    (runs [0x88#8] (fun s => { s with y := 0x01#8 }) [] (fun s => { s with y := 0x00#8, pc := 0x0601#16, z := true }) [] 2) = true := by decide

/-- AND: vectors LG-1. -/
theorem test_andImm :
    (runs [0x29#8, 0x0F#8] (fun s => { s with a := 0xF0#8 }) [] (fun s => { s with a := 0x00#8, pc := 0x0602#16, z := true }) [] 2) = true := by decide

/-- ORA: vectors LG-2. -/
theorem test_oraImm :
    (runs [0x09#8, 0x80#8] (fun s => { s with a := 0x0F#8 }) [] (fun s => { s with a := 0x8F#8, pc := 0x0602#16, n := true }) [] 2) = true := by decide

/-- EOR: vectors LG-3. -/
theorem test_eorImm :
    (runs [0x49#8, 0xFF#8] (fun s => { s with a := 0xFF#8 }) [] (fun s => { s with a := 0x00#8, pc := 0x0602#16, z := true }) [] 2) = true := by decide

/-- BIT: vectors LG-4. -/
theorem test_bitZp :
    (runs [0x24#8, 0x10#8] (fun s => { s with a := 0x01#8 }) [(0x0010#16, 0xC0#8)] (fun s => { s with pc := 0x0602#16, n := true, v := true, z := true }) [] 3) = true := by decide

/-- BIT: vectors LG-5. -/
theorem test_bitAbs :
    (runs [0x2C#8, 0x00#8, 0x02#8] (fun s => { s with a := 0xFF#8, n := true, v := true, z := true }) [(0x0200#16, 0x01#8)] (fun s => { s with pc := 0x0603#16, n := false, v := false, z := false }) [] 4) = true := by decide

/-- ASL: vectors LG-6. -/
theorem test_aslAcc :
    (runs [0x0A#8] (fun s => { s with a := 0x80#8 }) [] (fun s => { s with a := 0x00#8, pc := 0x0601#16, z := true, c := true }) [] 2) = true := by decide

/-- ASL: vectors LG-7. -/
theorem test_aslZp :
    (runs [0x06#8, 0x10#8] (fun s => { s with c := true }) [(0x0010#16, 0x41#8)] (fun s => { s with pc := 0x0602#16, n := true, c := false }) [(0x0010#16, 0x82#8)] 5) = true := by decide

/-- LSR: vectors LG-8. -/
theorem test_lsrAcc :
    (runs [0x4A#8] (fun s => { s with a := 0x01#8 }) [] (fun s => { s with a := 0x00#8, pc := 0x0601#16, z := true, c := true }) [] 2) = true := by decide

/-- LSR: vectors LG-9. -/
theorem test_lsrAbs :
    (runs [0x4E#8, 0x00#8, 0x02#8] id [(0x0200#16, 0x80#8)] (fun s => { s with pc := 0x0603#16 }) [(0x0200#16, 0x40#8)] 6) = true := by decide

/-- ROL: vectors LG-10, LG-11. -/
theorem test_rolAcc :
    (runs [0x2A#8] (fun s => { s with a := 0x80#8, c := true }) [] (fun s => { s with a := 0x01#8, pc := 0x0601#16 }) [] 2 &&
      runs [0x2A#8] (fun s => { s with a := 0x40#8, c := false }) [] (fun s => { s with a := 0x80#8, pc := 0x0601#16, n := true }) [] 2) = true := by decide

/-- ROR: vectors LG-12. -/
theorem test_rorAcc :
    (runs [0x6A#8] (fun s => { s with a := 0x01#8, c := true }) [] (fun s => { s with a := 0x80#8, pc := 0x0601#16, n := true }) [] 2) = true := by decide

/-- ROR: vectors LG-13. -/
theorem test_rorAbsX :
    (runs [0x7E#8, 0x00#8, 0x03#8] (fun s => { s with x := 0x01#8, c := false }) [(0x0301#16, 0x01#8)] (fun s => { s with pc := 0x0603#16, z := true, c := true }) [(0x0301#16, 0x00#8)] 7) = true := by decide

/-- JMP: vectors CT-1. -/
theorem test_jmpAbs :
    (runs [0x4C#8, 0x00#8, 0x06#8] id [] (fun s => { s with pc := 0x0600#16 }) [] 3) = true := by decide

/-- JMP: vectors RES-13, RES-14. -/
theorem test_jmpInd :
    (runs [0x6C#8, 0xFF#8, 0x10#8] id [(0x1000#16, 0x56#8), (0x10FF#16, 0x34#8), (0x1100#16, 0x12#8)] (fun s => { s with pc := 0x1234#16 }) [] 5 &&
      runs [0x6C#8, 0xFF#8, 0x10#8] (fun s => { s with cfg := { s.cfg with jmpIndPageWrap := true } }) [(0x1000#16, 0x56#8), (0x10FF#16, 0x34#8), (0x1100#16, 0x12#8)] (fun s => { s with pc := 0x5634#16 }) [] 5) = true := by decide

/-- JSR: vectors CT-2, CT-3. -/
theorem test_jsr :
    (runs [0x20#8, 0x10#8, 0x06#8] (fun s => { s with pc := 0x060A#16, sp := 0xFD#8 }) [] (fun s => { s with sp := 0xFB#8, pc := 0x0610#16 }) [(0x01FD#16, 0x06#8), (0x01FC#16, 0x0C#8)] 6 &&
      runs [0x20#8, 0x00#8, 0x30#8] (fun s => { s with sp := 0x00#8 }) [] (fun s => { s with sp := 0xFE#8, pc := 0x3000#16 }) [(0x0100#16, 0x06#8), (0x01FF#16, 0x02#8)] 6) = true := by decide

/-- RTS: vectors CT-4, CT-5. -/
theorem test_rts :
    (runs [0x60#8] (fun s => { s with sp := 0xFB#8 }) [(0x01FC#16, 0x0C#8), (0x01FD#16, 0x06#8)] (fun s => { s with sp := 0xFD#8, pc := 0x060D#16 }) [] 6 &&
      runs [0x60#8] (fun s => { s with sp := 0xFB#8 }) [(0x01FC#16, 0xFF#8), (0x01FD#16, 0xFF#8)] (fun s => { s with sp := 0xFD#8, pc := 0x0000#16 }) [] 6) = true := by decide

/-- RTI: vectors CT-6, CT-7. -/
theorem test_rti :
    (runs [0x40#8] (fun s => { s with sp := 0xFA#8 }) [(0x01FB#16, 0x24#8), (0x01FC#16, 0x07#8), (0x01FD#16, 0x06#8)] (fun s => { s with sp := 0xFD#8, pc := 0x0607#16, i := true }) [] 6 &&
      runs [0x40#8] (fun s => { s with sp := 0xFA#8, b := true, i := true }) [(0x01FB#16, 0xC3#8), (0x01FC#16, 0x34#8), (0x01FD#16, 0x12#8)] (fun s => { s with sp := 0xFD#8, pc := 0x1234#16, n := true, v := true, b := false, i := false, z := true, c := true }) [] 6) = true := by decide

/-- BCC: vectors BR-5. -/
theorem test_bcc :
    (runs [0x90#8, 0x00#8] (fun s => { s with c := false }) [] (fun s => { s with pc := 0x0602#16 }) [] 3) = true := by decide

/-- BCS: vectors BR-6. -/
theorem test_bcs :
    (runs [0xB0#8, 0x20#8] (fun s => { s with pc := 0x06F0#16, c := true }) [] (fun s => { s with pc := 0x0712#16 }) [] 4) = true := by decide

/-- BEQ: vectors BR-3. -/
theorem test_beq :
    (runs [0xF0#8, 0x80#8] (fun s => { s with z := true }) [] (fun s => { s with pc := 0x0582#16 }) [] 4) = true := by decide

/-- BNE: vectors BR-1, BR-2. -/
theorem test_bne :
    (runs [0xD0#8, 0xFE#8] (fun s => { s with z := false }) [] (fun s => { s with pc := 0x0600#16 }) [] 3 &&
      runs [0xD0#8, 0xFE#8] (fun s => { s with z := true }) [] (fun s => { s with pc := 0x0602#16 }) [] 2) = true := by decide

/-- BMI: vectors BR-7. -/
theorem test_bmi :
    (runs [0x30#8, 0x7F#8] (fun s => { s with pc := 0xFFF0#16, n := true }) [] (fun s => { s with pc := 0x0071#16 }) [] 4) = true := by decide

/-- BPL: vectors BR-4. -/
theorem test_bpl :
    (runs [0x10#8, 0x7F#8] (fun s => { s with n := false }) [] (fun s => { s with pc := 0x0681#16 }) [] 3) = true := by decide

/-- BVC: vectors BR-8. -/
theorem test_bvc :
    (runs [0x50#8, 0x10#8] (fun s => { s with v := true }) [] (fun s => { s with pc := 0x0602#16 }) [] 2) = true := by decide

/-- BVS: vectors BR-9. -/
theorem test_bvs :
    (runs [0x70#8, 0xFC#8] (fun s => { s with v := true }) [] (fun s => { s with pc := 0x05FE#16 }) [] 4) = true := by decide

/-- CLC: vectors FS-1. -/
theorem test_clc :
    (runs [0x18#8] (fun s => { s with c := true }) [] (fun s => { s with pc := 0x0601#16, c := false }) [] 2) = true := by decide

/-- CLD: vectors FS-2. -/
theorem test_cld :
    (runs [0xD8#8] (fun s => { s with d := true }) [] (fun s => { s with pc := 0x0601#16, d := false }) [] 2) = true := by decide

/-- CLI: vectors FS-3. -/
theorem test_cli :
    (runs [0x58#8] (fun s => { s with i := true }) [] (fun s => { s with pc := 0x0601#16, i := false }) [] 2) = true := by decide

/-- CLV: vectors FS-4. -/
theorem test_clv :
    (runs [0xB8#8] (fun s => { s with v := true }) [] (fun s => { s with pc := 0x0601#16, v := false }) [] 2) = true := by decide

/-- SEC: vectors FS-5. -/
theorem test_sec :
    (runs [0x38#8] (fun s => { s with c := false }) [] (fun s => { s with pc := 0x0601#16, c := true }) [] 2) = true := by decide

/-- SED: vectors FS-6. -/
theorem test_sed :
    (runs [0xF8#8] (fun s => { s with d := false }) [] (fun s => { s with pc := 0x0601#16, d := true }) [] 2) = true := by decide

/-- SEI: vectors FS-7. -/
theorem test_sei :
    (runs [0x78#8] (fun s => { s with i := false }) [] (fun s => { s with pc := 0x0601#16, i := true }) [] 2) = true := by decide

/-- NOP: vectors FS-8. -/
theorem test_nop :
    (runs [0xEA#8] id [] (fun s => { s with pc := 0x0601#16 }) [] 2) = true := by decide

/-- BRK: vectors FS-9, FS-10, FS-11. -/
theorem test_brk :
    (runs [0x00#8] (fun s => { s with pc := 0x0605#16, i := true }) [(0xFFFE#16, 0x00#8), (0xFFFF#16, 0x80#8)] (fun s => { s with sp := 0xFA#8, pc := 0x8000#16, b := true }) [(0x01FD#16, 0x06#8), (0x01FC#16, 0x07#8), (0x01FB#16, 0x24#8)] 7 &&
      runs [0x00#8] (fun s => { s with b := true, i := false, c := true }) [(0xFFFE#16, 0x00#8), (0xFFFF#16, 0x80#8)] (fun s => { s with sp := 0xFA#8, pc := 0x8000#16, i := true }) [(0x01FD#16, 0x06#8), (0x01FC#16, 0x02#8), (0x01FB#16, 0x31#8)] 7 &&
      runs [0x00#8] (fun s => { s with sp := 0x01#8 }) [(0xFFFE#16, 0x00#8), (0xFFFF#16, 0x80#8)] (fun s => { s with sp := 0xFE#8, pc := 0x8000#16, b := true, i := true }) [(0x0101#16, 0x06#8), (0x0100#16, 0x02#8), (0x01FF#16, 0x20#8)] 7) = true := by decide

/-- Illegal opcodes: vectors IL-1, IL-2, IL-3, IL-4. -/
theorem test_illegal_opcodes :
    (faultsAs [0x02#8] id [] 0x02#8 &&
      faultsAs [0xFF#8] (fun s => { s with a := 0x11#8 }) [] 0xFF#8 &&
      faultsAs [0x80#8, 0x01#8] id [] 0x80#8 &&
      faultsAs [0xA7#8, 0x10#8] id [] 0xA7#8) = true := by decide

/-- Pins: vectors PN-1, PN-2, PN-3, PN-4, PN-5, PN-6. -/
theorem test_pins :
    ((irqPin (setUp [] (fun s => { s with i := true }) [(0xFFFE#16, 0x00#8), (0xFFFF#16, 0x80#8)]) == setUp [] (fun s => { s with i := true }) [(0xFFFE#16, 0x00#8), (0xFFFF#16, 0x80#8)]) &&
      (irqPin (setUp [] (fun s => { s with i := false }) [(0xFFFE#16, 0x00#8), (0xFFFF#16, 0x80#8)]) == (fun s => { s with sp := 0xFA#8, pc := 0x8000#16, i := true }) (poke (setUp [] (fun s => { s with i := false }) [(0xFFFE#16, 0x00#8), (0xFFFF#16, 0x80#8)]) [(0x01FD#16, 0x06#8), (0x01FC#16, 0x00#8), (0x01FB#16, 0x20#8)])) &&
      (nmiPin (setUp [] (fun s => { s with i := true, c := true }) [(0xFFFA#16, 0x00#8), (0xFFFB#16, 0x90#8)]) == (fun s => { s with sp := 0xFA#8, pc := 0x9000#16 }) (poke (setUp [] (fun s => { s with i := true, c := true }) [(0xFFFA#16, 0x00#8), (0xFFFB#16, 0x90#8)]) [(0x01FD#16, 0x06#8), (0x01FC#16, 0x00#8), (0x01FB#16, 0x25#8)])) &&
      (resetPin (setUp [] (fun s => { s with sp := 0x12#8, i := false, b := true, d := true, a := 0x77#8 }) [(0xFFFC#16, 0x00#8), (0xFFFD#16, 0x06#8)]) == (fun s => { s with sp := 0xFD#8, pc := 0x0600#16, b := false, i := true }) (poke (setUp [] (fun s => { s with sp := 0x12#8, i := false, b := true, d := true, a := 0x77#8 }) [(0xFFFC#16, 0x00#8), (0xFFFD#16, 0x06#8)]) [])) &&
      (pins { reset := true, nmi := true, irq := true } (setUp [] (fun s => { s with sp := 0x12#8, i := false }) [(0xFFFA#16, 0x00#8), (0xFFFB#16, 0x90#8), (0xFFFC#16, 0x00#8), (0xFFFD#16, 0x06#8), (0xFFFE#16, 0x00#8), (0xFFFF#16, 0x80#8)]) == (fun s => { s with sp := 0xFD#8, pc := 0x0600#16, i := true }) (poke (setUp [] (fun s => { s with sp := 0x12#8, i := false }) [(0xFFFA#16, 0x00#8), (0xFFFB#16, 0x90#8), (0xFFFC#16, 0x00#8), (0xFFFD#16, 0x06#8), (0xFFFE#16, 0x00#8), (0xFFFF#16, 0x80#8)]) [])) &&
      (pins { reset := false, nmi := true, irq := true } (setUp [] (fun s => { s with i := false }) [(0xFFFA#16, 0x00#8), (0xFFFB#16, 0x90#8), (0xFFFE#16, 0x00#8), (0xFFFF#16, 0x80#8)]) == (fun s => { s with sp := 0xFA#8, pc := 0x9000#16, i := true }) (poke (setUp [] (fun s => { s with i := false }) [(0xFFFA#16, 0x00#8), (0xFFFB#16, 0x90#8), (0xFFFE#16, 0x00#8), (0xFFFF#16, 0x80#8)]) [(0x01FD#16, 0x06#8), (0x01FC#16, 0x00#8), (0x01FB#16, 0x20#8)]))) = true := by decide

/-! ### Witnesses: a concrete state and operands that meet the hypotheses of each statement that has some -/

theorem next_of_isNext {r : Result} {t : State} (h : isNext r t = true) : r = .next t := by
  cases r with
  | next u => exact congrArg _ (by simpa [isNext] using h)
  | fault f => simp [isNext] at h
  | refused f => simp [isNext] at h

theorem fault_of_isFault {r : Result} {f : Fault} (h : isFault r f = true) : r = .fault f := by
  cases r with
  | next u => simp [isFault] at h
  | fault g => exact congrArg _ (by simpa [isFault] using h)
  | refused g => simp [isFault] at h

theorem test_witness_EncodeIsTheOnlyImage :
    decodeBytes [0xEA#8] = .instr .nop [] ∧ decodeBytes [0xA9#8, 0xFF#8, 0x02#8] = .instr (.ldaImm 0xFF#8) [0x02#8] ∧
    decodeBytes [0x4C#8, 0xFF#8, 0xFF#8] = .instr (.jmpAbs 0xFFFF#16) [] := by decide

/-- The first and the last opcode of the list stand at PC, the second at the top of memory. -/
theorem test_witness_IllegalOpcodesAreExactlyTheListed :
    (memRead (setUp [0x02#8] id []) 0x0600#16 ∈ illegalOpcodes) ∧
    (memRead (setUp [0xFF#8] (fun s => { s with pc := 0xFFFF#16 }) []) 0xFFFF#16 ∈ illegalOpcodes) := by decide

theorem test_witness_LengthIsOnePlusModeBytes : opcodeOf (.ldaImm 0x00#8) = opcodeOf (.ldaImm 0xFF#8) := by decide

/-- The instruction's last two bytes are at 0x0000 and 0x0001. -/
theorem test_witness_StepRunsDecodedInstruction :
    let s := setUp [0x4C#8, 0x34#8, 0x12#8] (fun s => { s with pc := 0xFFFF#16 }) []
    decodeBytes [memRead s s.pc, memRead s (s.pc + 1#16), memRead s (s.pc + 2#16)] = .instr (.jmpAbs 0x1234#16) [] := by decide

theorem test_witness_StepRunsInstructionInMemory :
    let s := setUp [0x8D#8, 0x00#8, 0x02#8] (fun s => { s with pc := 0xFFFE#16 }) []
    ∀ k : Nat, k < (encode (.staAbs 0x0200#16)).length →
      memRead s (s.pc + BitVec.ofNat 16 k) = (encode (.staAbs 0x0200#16)).getD k 0#8 := by decide

theorem test_witness_StepCompletesExactlyOnAssignedOpcodes :
    step (setUp [0xEA#8] id []) = .next { setUp [0xEA#8] id [] with pc := 0x0601#16 } ∧
    step (setUp [0x02#8] id []) = .fault (.illegalOpcode 0x02#8) :=
  ⟨next_of_isNext (by decide), fault_of_isFault (by decide)⟩

theorem test_witness_IllegalOpcodeRepeatsUntilTheHostActs :
    memRead (setUp [0x80#8] id []) (setUp [0x80#8] id []).pc ∈ illegalOpcodes := by decide

/-- A step that completes with an instruction other than PHP and BRK, one with each of these two and an address beside the
pushed status byte, and a step that faults. -/
theorem test_witness_BreakFlagNeverStopsTheCore :
    step (setUp [0x78#8] id []) = .next { setUp [0x78#8] id [] with pc := 0x0601#16, i := true } ∧
    fetchInstr (setUp [0x78#8] id []) = some .sei ∧ mnemonicOf .sei ∉ ["PHP", "BRK"] ∧
    (∃ t, step (setUp [0x08#8] id []) = .next t) ∧ fetchInstr (setUp [0x08#8] id []) = some .php ∧ mnemonicOf .php = "PHP" ∧
    0x01FC#16 ≠ stackAddress start.sp ∧
    (∃ t, step (setUp [0x00#8] id []) = .next t) ∧ fetchInstr (setUp [0x00#8] id []) = some .brk ∧ mnemonicOf .brk = "BRK" ∧
    0x01FC#16 ≠ stackAddress (start.sp - 2#8) ∧
    step (setUp [0xFF#8] id []) = .fault (.illegalOpcode 0xFF#8) :=
  ⟨next_of_isNext (by decide), by decide, by decide,
    ⟨{ poke (setUp [0x08#8] id []) [(0x01FD#16, 0x20#8)] with sp := 0xFC#8, pc := 0x0601#16 }, next_of_isNext (by decide)⟩,
    by decide, by decide, by decide,
    ⟨{ poke (setUp [0x00#8] id []) [(0x01FD#16, 0x06#8), (0x01FC#16, 0x02#8), (0x01FB#16, 0x20#8)] with
        sp := 0xFA#8, pc := 0x0000#16, b := true, i := true }, next_of_isNext (by decide)⟩,
    by decide, by decide, by decide, fault_of_isFault (by decide)⟩

theorem test_witness_DecimalFlagReadOnlyByAdcSbcAndPushes :
    mnemonicOf (.incZp 0x10#8) ∉ ["ADC", "SBC", "PHP", "BRK"] ∧ ∃ t, exec (.incZp 0x10#8) { start with d := true } = .next t :=
  ⟨by decide, _, rfl⟩

theorem test_witness_ParametersReadOnlyByAdcSbcJmp :
    mnemonicOf .plp ∉ ["ADC", "SBC", "JMP"] ∧ (∃ t, exec .plp start = .next t) ∧
    transact .step (setUp [0xEA#8] id []) = .next { setUp [0xEA#8] id [] with pc := 0x0601#16 } ∧
    (∃ t, transact .reset start = .next t) ∧ (∃ t, transact (.hostWrite 0xFFFF#16 0xFF#8) start = .next t) :=
  ⟨by decide, ⟨_, rfl⟩, next_of_isNext (by decide), ⟨_, rfl⟩, _, rfl⟩

/-- A store of 0x00, the byte an unlisted address reads as, over a listed byte; and a host write of it. -/
theorem test_witness_EveryStepKeepsMemoryCanonical :
    let s := setUp [0x85#8, 0x10#8] id [(0x0010#16, 0x77#8), (0xFFFF#16, 0x01#8)]
    Safety.Inv s ∧ (∃ t, step s = .next t) ∧ (∃ t, transact (.hostWrite 0xFFFF#16 0x00#8) s = .next t) :=
  ⟨by decide,
    ⟨{ setUp [0x85#8, 0x10#8] id [(0xFFFF#16, 0x01#8)] with pc := 0x0602#16 }, next_of_isNext (by decide)⟩, _, rfl⟩

theorem test_witness_OnlyListedInstructionsWriteDataRegisters :
    (∃ t, exec (.staZp 0x10#8) start = .next t) ∧ mnemonicOf (.staZp 0x10#8) ∉ ["LDX", "TAX", "TSX", "INX", "DEX"] ∧
    (∃ t, exec (.aslZp 0x10#8) start = .next t) ∧ mnemonicOf (.aslZp 0x10#8) ∈ ["ASL", "LSR", "ROL", "ROR"] ∧
    modeOf (.aslZp 0x10#8) ≠ .accumulator ∧ (Transaction.reset ≠ .step ∧ ∃ t, transact .reset start = .next t) ∧
    (Transaction.hostWrite 0x0000#16 0xFF#8 ≠ .step ∧ ∃ t, transact (.hostWrite 0x0000#16 0xFF#8) start = .next t) ∧
    (∃ t, exec .brk start = .next t) :=
  ⟨⟨_, rfl⟩, by decide, ⟨_, rfl⟩, by decide, by decide, ⟨by decide, _, rfl⟩, ⟨by decide, _, rfl⟩, _, rfl⟩

theorem test_witness_OnlyListedInstructionsWriteFlags :
    (∃ t, exec .nop start = .next t) ∧ mnemonicOf .nop = "NOP" ∧
    (Transaction.nmi ≠ .step ∧ ∃ t, transact .nmi start = .next t) ∧ (Transaction.irq ≠ .step ∧ ∃ t, transact .irq start = .next t) :=
  ⟨⟨_, rfl⟩, by decide, ⟨by decide, _, rfl⟩, by decide, _, rfl⟩

/-- Each case at a stack pointer where it wraps. -/
theorem test_witness_OnlyStackInstructionsMoveSp :
    (∃ t, exec .pha { start with sp := 0x00#8 } = .next t ∧ t.sp = 0xFF#8) ∧
    (∃ t, exec (.jsr 0xFFFF#16) { start with sp := 0x01#8 } = .next t ∧ t.sp = 0xFF#8) ∧
    (∃ t, exec .brk { start with sp := 0x02#8 } = .next t ∧ t.sp = 0xFF#8) ∧
    (∃ t, exec .pla { start with sp := 0xFF#8 } = .next t ∧ t.sp = 0x00#8) ∧
    (∃ t, exec .rts { start with sp := 0xFE#8 } = .next t ∧ t.sp = 0x00#8) ∧
    (∃ t, exec .rti { start with sp := 0xFD#8 } = .next t ∧ t.sp = 0x00#8) ∧
    (∃ t, exec .txs { start with x := 0x5A#8 } = .next t ∧ t.sp = 0x5A#8) ∧
    (∃ t, exec .nop start = .next t ∧ t.sp = 0xFD#8) :=
  ⟨⟨_, rfl, by decide⟩, ⟨_, rfl, by decide⟩, ⟨_, rfl, by decide⟩, ⟨_, rfl, by decide⟩, ⟨_, rfl, by decide⟩, ⟨_, rfl, by decide⟩,
    ⟨_, rfl, by decide⟩, _, rfl, by decide⟩

theorem test_witness_NonStoringInstructionsLeaveMemory :
    (∃ t, exec (.ldaImm 0x00#8) start = .next t) ∧
    mnemonicOf (.ldaImm 0x00#8) ∉
      ["STA", "STX", "STY", "INC", "DEC", "ASL", "LSR", "ROL", "ROR", "PHA", "PHP", "JSR", "BRK"] ∧
    (∃ t, exec .rorAcc start = .next t) ∧ modeOf .rorAcc = .accumulator :=
  ⟨⟨_, rfl⟩, by decide, ⟨_, rfl⟩, by decide⟩

/-- The two addresses beside the stack page, with SP at each end. -/
theorem test_witness_PushesWriteOnlyTheStackPage :
    ((0x00FF#16).toNat < 0x0100 ∧ 0x01FF < (0x0200#16).toNat) ∧
    mnemonicOf .brk ∈ ["PHA", "PHP", "JSR", "BRK"] ∧ (∃ t, exec .brk { start with sp := 0x00#8 } = .next t) ∧
    (∃ t, exec .brk { start with sp := 0xFF#8 } = .next t) :=
  ⟨by decide, by decide, ⟨_, rfl⟩, _, rfl⟩

theorem test_witness_PcAdvancesByLengthUnlessTransferred :
    (∃ t, exec .nop { start with pc := 0xFFFF#16 } = .next t ∧ t.pc = 0x0000#16) ∧
    (∃ t, exec (.ldaAbs 0x0000#16) { start with pc := 0xFFFD#16 } = .next t ∧ t.pc = 0x0000#16) ∧
    (∀ m ∈ ["NOP", "LDA"], m ∉ ["JMP", "JSR", "RTS", "RTI", "BRK", "BCC", "BCS", "BEQ", "BNE", "BMI", "BPL", "BVC", "BVS"]) ∧
    mnemonicOf .nop = "NOP" ∧ mnemonicOf (.ldaAbs 0x0000#16) = "LDA" :=
  ⟨⟨_, rfl, by decide⟩, ⟨_, rfl, by decide⟩, by decide, by decide, by decide⟩

theorem test_witness_SpecialModesAndTheirUsers :
    modeOf .nop = .implied ∧ modeOf (.cpyImm 0xFF#8) = .immediate ∧ modeOf .rolAcc = .accumulator ∧
    modeOf (.stxZpY 0xFF#8) = .zeroPageY ∧ modeOf (.bvs 0x80#8) = .relative := by decide

/-- The same bytes written in two orders. -/
theorem test_witness_EqualContentsAreEqualMemories :
    let s := poke start [(0x0000#16, 0x01#8), (0xFFFF#16, 0x02#8)]
    let t := poke start [(0xFFFF#16, 0x02#8), (0x0000#16, 0x01#8)]
    Safety.Inv s ∧ Safety.Inv t ∧ ∀ k : Word, memRead s k = memRead t k :=
  have h : poke start [(0x0000#16, 0x01#8), (0xFFFF#16, 0x02#8)] = poke start [(0xFFFF#16, 0x02#8), (0x0000#16, 0x01#8)] := by decide
  ⟨by decide, by decide, fun k => by rw [h]⟩

theorem test_witness_HostPortReadsAndWritesPlainMemory : Safety.Inv (poke start [(0xFFFF#16, 0x02#8)]) := by decide

theorem test_witness_StackWrapsInItsPage :
    ({ start with sp := 0x00#8 } : State).sp = 0x00#8 ∧ ({ start with sp := 0xFF#8 } : State).sp = 0xFF#8 := by decide

/-- The sum and the difference at both ends of the two-digit range. -/
theorem test_witness_AdcDecimalFollowsNmosAlgorithm :
    (99 < 100 ∧ 0 < 100) ∧ (adcDecimal (bcd 99) (bcd 99) true).result = bcd 99 ∧ (adcDecimal (bcd 99) (bcd 0) false).carry = false ∧
    (adcDecimal (bcd 99) (bcd 0) true).carry = true := by decide

theorem test_witness_SbcDecimalFollowsNmosAlgorithm :
    (99 < 100 ∧ 0 < 100) ∧ sbcDecimal (bcd 0) (bcd 99) false = bcd 0 ∧ sbcDecimal (bcd 99) (bcd 99) true = bcd 0 := by decide

/-- The pointer bytes beside 0xFF. -/
theorem test_witness_JumpsSetPcOnly : 0xFE#8 ≠ 0xFF#8 ∧ 0x00#8 ≠ 0xFF#8 := by decide

theorem test_witness_CallsAndReturnsUseTheStack : ∃ t, exec (.jsr 0xFFFF#16) { start with sp := 0x00#8, pc := 0xFFFE#16 } = .next t :=
  ⟨_, rfl⟩

theorem test_witness_InterruptEntriesSaveAndVector : start.i = false ∧ ({ start with i := true } : State).i = true := by decide

/-- SP = 0x00, where the entry wraps, and the addresses beside the slots of one entry and of two. -/
theorem test_witness_RtiUndoesEveryEntry :
    start.i = false ∧ (∃ t, exec .brk { start with sp := 0x00#8 } = .next t) ∧
    OutsideSlots 3 { start with sp := 0x00#8 } 0x01FD#16 ∧ OutsideSlots 3 { start with sp := 0x00#8 } 0x0200#16 ∧
    OutsideSlots 6 { start with sp := 0x00#8 } 0x01FA#16 ∧ OutsideSlots 6 { start with sp := 0x00#8 } 0x00FF#16 :=
  ⟨by decide, ⟨_, rfl⟩, by unfold OutsideSlots; decide, by unfold OutsideSlots; decide, by unfold OutsideSlots; decide,
    by unfold OutsideSlots; decide⟩

/-- The addresses on either side of the reset vector; an address that is written twice, and one that is not written. -/
theorem test_witness_BootReachesTheChosenAddress :
    0xFFFB#16 ≠ 0xFFFC#16 ∧ 0xFFFB#16 ≠ 0xFFFD#16 ∧ 0xFFFE#16 ≠ 0xFFFC#16 ∧ 0xFFFE#16 ≠ 0xFFFD#16 ∧
    lastWrite [(0x0600#16, 0x01#8), (0x0601#16, 0x02#8), (0x0600#16, 0x03#8)] 0x0600#16 = some 0x03#8 ∧
    lastWrite [(0x0600#16, 0x01#8), (0x0601#16, 0x02#8), (0x0600#16, 0x03#8)] 0x0601#16 = some 0x02#8 ∧
    lastWrite [(0x0600#16, 0x01#8)] 0xFFFE#16 = none := by decide

/-- A run that ends at BRK, and a run that meets an illegal opcode. -/
theorem test_witness_RunEndsAtFirstBreak :
    (∃ t, Safety.runToEnd 1 (setUp [0x00#8] id []) = .ended t) ∧
    Safety.runToEnd 1 (setUp [0x02#8] id []) = .faulted (.illegalOpcode 0x02#8) :=
  ⟨⟨{ poke (setUp [0x00#8] id []) [(0x01FD#16, 0x06#8), (0x01FC#16, 0x02#8), (0x01FB#16, 0x20#8)] with
      sp := 0xFA#8, pc := 0x0000#16, b := true, i := true }, by decide⟩, by decide⟩

/-- A fetched instruction; and counts with and without a crossing: base 0x10FF with index 0 and 1, pointer 0x10FF, a branch over a page. -/
theorem test_witness_CycleCountsFollowTheTable :
    fetchInstr (setUp [0xEA#8] id []) = some .nop ∧
    modeOf (.bcc 0x80#8) = .relative ∧ cycles (.bcc 0x80#8) start = 4 ∧ cycles (.bcc 0x7F#8) start = 3 ∧
    cycles (.bcc 0x80#8) { start with c := true } = 2 ∧
    mnemonicOf (.ldaAbsX 0x10FF#16) = "LDA" ∧ modeOf (.ldaAbsX 0x10FF#16) = .absoluteX ∧
    cycles (.ldaAbsX 0x10FF#16) start = 4 ∧ cycles (.ldaAbsX 0x10FF#16) { start with x := 0x01#8 } = 5 ∧
    mnemonicOf (.sbcIndY 0x10#8) = "SBC" ∧ modeOf (.sbcIndY 0x10#8) = .indirectIndexedY ∧
    cycles (.sbcIndY 0x10#8) (poke { start with y := 0x01#8 } [(0x0010#16, 0xFF#8), (0x0011#16, 0x10#8)]) = 6 ∧
    mnemonicOf (.staAbsX 0x10FF#16) = "STA" ∧ cycles (.staAbsX 0x10FF#16) { start with x := 0x01#8 } = 5 ∧
    mnemonicOf (.incAbsX 0x10FF#16) = "INC" ∧ modeOf (.incAbsX 0x10FF#16) = .absoluteX ∧
    cycles (.incAbsX 0x10FF#16) start = 7 := by decide

end Sys2Proof.Tests
end

section
/-! Proofs about spec/00_scope.md: word accesses (R11, R64) and the named parameters (R8). -/

namespace Sys2Proof.Scope

open Sys2Proof.Machine Sys2Proof.Laws

/-! ### Word accesses -/

/-- The number of the next address, modulo 65536 (R62). -/
theorem eq_add_one_iff (k addr : Word) : k = addr + 1#16 ↔ k.toNat = (addr.toNat + 1) % 65536 := by
  rw [← BitVec.toNat_inj, BitVec.toNat_add]
  rfl

/-- The two bytes a word write changes, and that no other byte changes (R11). -/
@[simp] theorem memRead_writeWord (s : State) (addr w k : Word) :
    memRead (writeWord s addr w) k =
      if k = addr then lowByte w else if k = addr + 1#16 then highByte w else memRead s k := by
  rw [writeWord, memRead_memWrite, memRead_memWrite]
  by_cases hk : k = addr
  · simp [hk]
  · simp [hk]

/-- A word read gives back the word written, at every address (R11, R64). -/
@[simp] theorem readWord_writeWord (s : State) (addr w : Word) : readWord (writeWord s addr w) addr = w := by
  simp [readWord]

/-- A word from page zero as a number, its high byte one further modulo 256 (R11, R113). -/
theorem toNat_readWordZP (s : State) (p : Byte) :
    (readWordZP s p).toNat =
      (memRead s (BitVec.ofNat 16 ((p.toNat + 1) % 256))).toNat * 256 + (memRead s (BitVec.ofNat 16 p.toNat)).toNat := by
  rw [readWordZP, toNat_wordOf, zeroPageAddress_eq, zeroPageAddress_eq, BitVec.toNat_add]
  rfl

/-- Settles O23: each byte after the write by `memRead_writeWord`, the addresses and bytes then read as numbers. -/
theorem wordAccessIsLittleEndian : Obligations.WordAccessIsLittleEndian := by
  refine ⟨fun s addr w => ⟨readWord_writeWord s addr w, fun k => ?_⟩, toNat_readWordZP⟩
  simp only [memRead_writeWord, ← eq_add_one_iff, apply_ite BitVec.toNat, toNat_lowByte, toNat_highByte]

/-! ### The named parameters

An effect that gives the same result whatever the parameters are (`ConfigBlind`) also keeps them, so one case split over
the templates of the instruction rules serves both halves of O12. -/

/-- The effect neither looks at the named parameters (R8) nor changes them. -/
def ConfigBlind (f : State → State) : Prop := ∀ (s : State) (g : Config), f { s with cfg := g } = { f s with cfg := g }

theorem ConfigBlind.cfg_eq {f : State → State} (hf : ConfigBlind f) (s : State) : (f s).cfg = s.cfg := by
  have h : f s = { f s with cfg := s.cfg } := hf s s.cfg
  rw [h]

/-- An effective address looks at X, Y and memory only (R113-R121). -/
theorem effectiveAddress_withCfg (mode : AddrMode) (s : State) (g : Config) :
    effectiveAddress mode { s with cfg := g } = effectiveAddress mode s := by
  cases mode <;> rfl

theorem operandValue_withCfg (src : Source) (s : State) (g : Config) :
    operandValue src { s with cfg := g } = operandValue src s := by
  cases src with
  | imm value => rfl
  | mem mode => exact congrArg (memRead s) (effectiveAddress_withCfg mode s g)

theorem configBlind_onSource (effect : State → Byte → State → State) (src : Source)
    (he : ∀ m : Byte, ConfigBlind (fun s => effect s m s)) : ConfigBlind (fun s => onSource (effect s) src s) := by
  intro s g
  simp only [onSource, operandValue_withCfg]
  exact congrArg (advance (sourceLength src)) (he (operandValue src s) s g)

theorem configBlind_storeAt (value : State → Byte) (mode : AddrMode)
    (hv : ∀ (s : State) (g : Config), value { s with cfg := g } = value s) :
    ConfigBlind (fun s => storeAt (value s) mode s) := by
  intro s g
  simp only [storeAt, hv, effectiveAddress_withCfg]
  rfl

theorem configBlind_modifyPlace (op : Byte → Bool → Byte × Bool) (place : Place) : ConfigBlind (modifyPlace op place) := by
  intro s g
  cases place with
  | acc => rfl
  | mem mode =>
    simp only [modifyPlace_mem, effectiveAddress_withCfg]
    rfl

theorem configBlind_branch (cond : State → Bool) (disp : Byte)
    (hc : ∀ (s : State) (g : Config), cond { s with cfg := g } = cond s) :
    ConfigBlind (fun s => branch (cond s) disp s) := by
  intro s g
  simp only [branch_eq, hc]
  rfl

/-! ### Each instruction under its template -/

/-- The instruction always completes, and `f` gives its next state. -/
def Means (i : Instr) (f : State → State) : Prop := ∀ s, exec i s = .next (f s)

theorem Means.eq_of_exec {i : Instr} {f : State → State} (hf : Means i f) {s t : State} (h : exec i s = .next t) :
    f s = t :=
  Host.Outcome.next.inj ((hf s).symm.trans h)

/-- Every instruction is blind to the parameters, but ADC, SBC and JMP, which keep them (R119, R284, R285). -/
theorem exec_configBlind_or_reader (i : Instr) :
    ∃ f, Means i f ∧ (ConfigBlind f ∨ mnemonicOf i ∈ ["ADC", "SBC", "JMP"] ∧ ∀ s, (f s).cfg = s.cfg) := by
  cases i with
  -- loads, compares, logic and BIT: an effect of the value read
  | ldaImm | ldaZp | ldaZpX | ldaAbs | ldaAbsX | ldaAbsY | ldaIndX | ldaIndY | ldxImm | ldxZp | ldxZpY
  | ldxAbs | ldxAbsY | ldyImm | ldyZp | ldyZpX | ldyAbs | ldyAbsX | cmpImm | cmpZp | cmpZpX | cmpAbs
  | cmpAbsX | cmpAbsY | cmpIndX | cmpIndY | cpxImm | cpxZp | cpxAbs | cpyImm | cpyZp | cpyAbs | andImm
  | andZp | andZpX | andAbs | andAbsX | andAbsY | andIndX | andIndY | oraImm | oraZp | oraZpX | oraAbs
  | oraAbsX | oraAbsY | oraIndX | oraIndY | eorImm | eorZp | eorZpX | eorAbs | eorAbsX | eorAbsY | eorIndX
  | eorIndY | bitZp | bitAbs =>
    exact ⟨_, fun _ => rfl, .inl (configBlind_onSource _ _ fun _ _ _ => rfl)⟩
  -- stores
  | staZp | staZpX | staAbs | staAbsX | staAbsY | staIndX | staIndY | stxZp | stxZpY | stxAbs | styZp
  | styZpX | styAbs =>
    exact ⟨_, fun _ => rfl, .inl (configBlind_storeAt _ _ fun _ _ => rfl)⟩
  -- read-modify-writes: increments and decrements of memory, shifts and rotates
  | incZp | incZpX | incAbs | incAbsX | decZp | decZpX | decAbs | decAbsX | aslAcc | aslZp | aslZpX | aslAbs
  | aslAbsX | lsrAcc | lsrZp | lsrZpX | lsrAbs | lsrAbsX | rolAcc | rolZp | rolZpX | rolAbs | rolAbsX
  | rorAcc | rorZp | rorZpX | rorAbs | rorAbsX =>
    exact ⟨_, fun _ => rfl, .inl (configBlind_modifyPlace _ _)⟩
  -- branches
  | bcc | bcs | beq | bne | bmi | bpl | bvc | bvs =>
    exact ⟨_, fun _ => rfl, .inl (configBlind_branch _ _ fun _ _ => rfl)⟩
  -- no operand in memory: the effect names the fields it reads, and the parameters are none of them
  | tax | tay | txa | tya | tsx | txs | pha | php | pla | plp | inx | iny | dex | dey | clc | cld | cli | clv
  | sec | sed | sei | nop | jsr | rts | rti | brk =>
    exact ⟨_, fun _ => rfl, .inl (fun _ _ => rfl)⟩
  -- ADC and SBC
  | adcImm | adcZp | adcZpX | adcAbs | adcAbsX | adcAbsY | adcIndX | adcIndY | sbcImm | sbcZp | sbcZpX
  | sbcAbs | sbcAbsX | sbcAbsY | sbcIndX | sbcIndY =>
    exact ⟨_, fun _ => rfl, .inr ⟨by simp [mnemonicOf], fun _ => by simp⟩⟩
  -- JMP
  | jmpAbs | jmpInd =>
    exact ⟨_, fun _ => rfl, .inr ⟨by simp [mnemonicOf], fun _ => by simp⟩⟩

theorem exec_withCfg (i : Instr) (s t : State) (g : Config) (hi : mnemonicOf i ∉ ["ADC", "SBC", "JMP"])
    (h : exec i s = .next t) : exec i { s with cfg := g } = .next { t with cfg := g } := by
  obtain ⟨f, hf, blind | ⟨reader, -⟩⟩ := exec_configBlind_or_reader i
  · rw [hf, blind, hf.eq_of_exec h]
  · exact absurd reader hi

theorem exec_keeps_cfg (i : Instr) (s t : State) (h : exec i s = .next t) : t.cfg = s.cfg := by
  obtain ⟨f, hf, blind | ⟨-, kept⟩⟩ := exec_configBlind_or_reader i
  · rw [← hf.eq_of_exec h, blind.cfg_eq]
  · rw [← hf.eq_of_exec h, kept]

/-- A step that completes ran the instruction it fetched (R140). -/
theorem step_next (s t : State) (h : step s = .next t) : ∃ i, fetchInstr s = some i ∧ exec i s = .next t := by
  unfold step at h
  split at h
  · next i hi => exact ⟨i, hi, h⟩
  · cases h

@[simp] theorem interruptEntry_cfg (returnAddr vec : Word) (s : State) : (interruptEntry returnAddr vec s).cfg = s.cfg := by
  simp [interruptEntry_eq]

@[simp] theorem nmiPin_cfg (s : State) : (nmiPin s).cfg = s.cfg := interruptEntry_cfg s.pc nmiVector s

@[simp] theorem irqPin_cfg (s : State) : (irqPin s).cfg = s.cfg := by
  unfold irqPin
  split
  · rfl
  · exact interruptEntry_cfg s.pc irqVector s

/-- One pin of a set is serviced, or none (R465). -/
theorem pins_cases (set : PinSet) (s : State) :
    pins set s = resetPin s ∨ pins set s = nmiPin s ∨ pins set s = irqPin s ∨ pins set s = s := by
  unfold pins
  split
  · exact .inl rfl
  split
  · exact .inr (.inl rfl)
  split
  · exact .inr (.inr (.inl rfl))
  · exact .inr (.inr (.inr rfl))

@[simp] theorem pins_cfg (set : PinSet) (s : State) : (pins set s).cfg = s.cfg := by
  obtain h | h | h | h := pins_cases set s <;> simp [h]

theorem transact_keeps_cfg (tr : Transaction) (s t : State) (h : transact tr s = .next t) : t.cfg = s.cfg := by
  cases tr with
  | step =>
    obtain ⟨i, -, hi⟩ := step_next s t h
    exact exec_keeps_cfg i s t hi
  | reset =>
    cases h
    exact resetPin_cfg s
  | nmi =>
    cases h
    exact nmiPin_cfg s
  | irq =>
    cases h
    exact irqPin_cfg s
  | pins set =>
    cases h
    exact pins_cfg set s
  | hostWrite addr value =>
    cases h
    exact memWrite_cfg s addr value

/-- Settles O12: the instructions by their templates, the pins and the host write by what they write. -/
theorem parametersReadOnlyByAdcSbcJmp : Obligations.ParametersReadOnlyByAdcSbcJmp :=
  ⟨exec_withCfg, transact_keeps_cfg⟩

end Sys2Proof.Scope
end

section
/-! What each mnemonic does, once: `Rule` lists the 56 mnemonics with their operands abstracted to a source, a place or an
addressing mode, and `follows_rule` reads an instruction as its rule. A statement about every instruction is then proved
by cases of its rule: here, what each rule leaves unchanged, what SP and PC become, and which rules read neither B nor D. -/

namespace Sys2Proof.Rules

open Sys2Proof.Machine Sys2Proof.Laws Sys2Proof.Scope

/-! ### Modes and lengths -/

/-- The mode tag of an operand in memory (R104). -/
@[simp] def addrTag : AddrMode → Mode
  | .zp _ => .zeroPage
  | .zpX _ => .zeroPageX
  | .zpY _ => .zeroPageY
  | .abs _ => .absolute
  | .absX _ => .absoluteX
  | .absY _ => .absoluteY
  | .indX _ => .indexedIndirectX
  | .indY _ => .indirectIndexedY

/-- The mode tag of an operand that is read. -/
@[simp] def sourceTag : Source → Mode
  | .imm _ => .immediate
  | .mem mode => addrTag mode

/-- The mode tag of what a read-modify-write works on. -/
@[simp] def placeTag : Place → Mode
  | .acc => .accumulator
  | .mem mode => addrTag mode

/-- `L = 1 + Bytes(mode)` as the word added to PC (R26, R102). -/
def modeLength (mode : Mode) : Word := BitVec.ofNat 16 (1 + modeBytes mode)

theorem addrLength_eq (mode : AddrMode) : addrLength mode = modeLength (addrTag mode) := by
  cases mode <;> rfl

theorem sourceLength_eq (src : Source) : sourceLength src = modeLength (sourceTag src) := by
  cases src with
  | imm value => rfl
  | mem mode => exact addrLength_eq mode

theorem placeLength_eq (place : Place) : placeLength place = modeLength (placeTag place) := by
  cases place with
  | acc => rfl
  | mem mode => exact addrLength_eq mode

/-- An encoding is as long as its mode asks (R102). -/
theorem length_encode (i : Instr) : (encode i).length = 1 + modeBytes (modeOf i) := by
  cases i <;> simp [encode, modeOf, modeBytes]

/-! ### The rules -/

/-- `Rule name mode f`: an instruction of this mnemonic and this mode takes a state to its image under `f`. -/
inductive Rule : String → Mode → (State → State) → Prop
  | lda (src : Source) : Rule "LDA" (sourceTag src) (onSource loadA src)
  | ldx (src : Source) : Rule "LDX" (sourceTag src) (onSource loadX src)
  | ldy (src : Source) : Rule "LDY" (sourceTag src) (onSource loadY src)
  | sta (mode : AddrMode) : Rule "STA" (addrTag mode) (fun s => storeAt s.a mode s)
  | stx (mode : AddrMode) : Rule "STX" (addrTag mode) (fun s => storeAt s.x mode s)
  | sty (mode : AddrMode) : Rule "STY" (addrTag mode) (fun s => storeAt s.y mode s)
  | tax : Rule "TAX" .implied (fun s => implied (loadX s.a) s)
  | tay : Rule "TAY" .implied (fun s => implied (loadY s.a) s)
  | txa : Rule "TXA" .implied (fun s => implied (loadA s.x) s)
  | tya : Rule "TYA" .implied (fun s => implied (loadA s.y) s)
  | tsx : Rule "TSX" .implied (fun s => implied (loadX s.sp) s)
  | txs : Rule "TXS" .implied (implied (fun t => { t with sp := t.x }))
  | pha : Rule "PHA" .implied (fun s => implied (pushByte s.a) s)
  | php : Rule "PHP" .implied (implied pushFlags)
  | pla : Rule "PLA" .implied (implied pullA)
  | plp : Rule "PLP" .implied (implied popFlags)
  | adc (src : Source) : Rule "ADC" (sourceTag src) (onSource addToA src)
  | sbc (src : Source) : Rule "SBC" (sourceTag src) (onSource subtractFromA src)
  | cmp (src : Source) : Rule "CMP" (sourceTag src) (fun s => onSource (compareWith s.a) src s)
  | cpx (src : Source) : Rule "CPX" (sourceTag src) (fun s => onSource (compareWith s.x) src s)
  | cpy (src : Source) : Rule "CPY" (sourceTag src) (fun s => onSource (compareWith s.y) src s)
  | inc (mode : AddrMode) : Rule "INC" (addrTag mode) (modifyMemory (· + 1#8) mode)
  | dec (mode : AddrMode) : Rule "DEC" (addrTag mode) (modifyMemory (· - 1#8) mode)
  | inx : Rule "INX" .implied (fun s => implied (loadX (s.x + 1#8)) s)
  | iny : Rule "INY" .implied (fun s => implied (loadY (s.y + 1#8)) s)
  | dex : Rule "DEX" .implied (fun s => implied (loadX (s.x - 1#8)) s)
  | dey : Rule "DEY" .implied (fun s => implied (loadY (s.y - 1#8)) s)
  | and (src : Source) : Rule "AND" (sourceTag src) (fun s => onSource (fun m => loadA (s.a &&& m)) src s)
  | ora (src : Source) : Rule "ORA" (sourceTag src) (fun s => onSource (fun m => loadA (s.a ||| m)) src s)
  | eor (src : Source) : Rule "EOR" (sourceTag src) (fun s => onSource (fun m => loadA (s.a ^^^ m)) src s)
  | bit (src : Source) : Rule "BIT" (sourceTag src) (onSource bitTest src)
  | asl (place : Place) : Rule "ASL" (placeTag place) (modifyPlace shiftLeft place)
  | lsr (place : Place) : Rule "LSR" (placeTag place) (modifyPlace shiftRight place)
  | rol (place : Place) : Rule "ROL" (placeTag place) (modifyPlace rotateLeft place)
  | ror (place : Place) : Rule "ROR" (placeTag place) (modifyPlace rotateRight place)
  | jmpAbs (addr : Word) : Rule "JMP" .absolute (jumpTo addr)
  | jmpInd (ptr : Word) : Rule "JMP" .indirect (fun s => jumpTo (indirectTarget ptr s) s)
  | jsr (addr : Word) : Rule "JSR" .absolute (callSubroutine addr)
  | rts : Rule "RTS" .implied returnFromSubroutine
  | rti : Rule "RTI" .implied returnFromInterrupt
  | bcc (disp : Byte) : Rule "BCC" .relative (fun s => branch (condBcc s) disp s)
  | bcs (disp : Byte) : Rule "BCS" .relative (fun s => branch (condBcs s) disp s)
  | beq (disp : Byte) : Rule "BEQ" .relative (fun s => branch (condBeq s) disp s)
  | bne (disp : Byte) : Rule "BNE" .relative (fun s => branch (condBne s) disp s)
  | bmi (disp : Byte) : Rule "BMI" .relative (fun s => branch (condBmi s) disp s)
  | bpl (disp : Byte) : Rule "BPL" .relative (fun s => branch (condBpl s) disp s)
  | bvc (disp : Byte) : Rule "BVC" .relative (fun s => branch (condBvc s) disp s)
  | bvs (disp : Byte) : Rule "BVS" .relative (fun s => branch (condBvs s) disp s)
  | clc : Rule "CLC" .implied (implied (fun t => { t with c := false }))
  | cld : Rule "CLD" .implied (implied (fun t => { t with d := false }))
  | cli : Rule "CLI" .implied (implied (fun t => { t with i := false }))
  | clv : Rule "CLV" .implied (implied (fun t => { t with v := false }))
  | sec : Rule "SEC" .implied (implied (fun t => { t with c := true }))
  | sed : Rule "SED" .implied (implied (fun t => { t with d := true }))
  | sei : Rule "SEI" .implied (implied (fun t => { t with i := true }))
  | nop : Rule "NOP" .implied (implied id)
  | brk : Rule "BRK" .implied softwareInterrupt

/-- The instruction completes from every state, as the rule of its mnemonic says. -/
def Follows (i : Instr) : Prop := ∃ f, Means i f ∧ Rule (mnemonicOf i) (modeOf i) f

theorem Rule.follows {name : String} {mode : Mode} {f : State → State} {i : Instr} (h : Rule name mode f)
    (hf : Means i f) (hname : mnemonicOf i = name := by simp [mnemonicOf])
    (hmode : modeOf i = mode := by simp [modeOf]) : Follows i :=
  ⟨f, hf, by rwa [hname, hmode]⟩

/-- Every instruction follows the rule of its mnemonic: the one case split over the constructors. -/
theorem follows_rule (i : Instr) : Follows i := by
  cases i with
  | ldaImm | ldaZp | ldaZpX | ldaAbs | ldaAbsX | ldaAbsY | ldaIndX | ldaIndY =>
    exact Rule.follows (.lda _) fun _ => rfl
  | ldxImm | ldxZp | ldxZpY | ldxAbs | ldxAbsY => exact Rule.follows (.ldx _) fun _ => rfl
  | ldyImm | ldyZp | ldyZpX | ldyAbs | ldyAbsX => exact Rule.follows (.ldy _) fun _ => rfl
  | staZp | staZpX | staAbs | staAbsX | staAbsY | staIndX | staIndY => exact Rule.follows (.sta _) fun _ => rfl
  | stxZp | stxZpY | stxAbs => exact Rule.follows (.stx _) fun _ => rfl
  | styZp | styZpX | styAbs => exact Rule.follows (.sty _) fun _ => rfl
  | tax => exact Rule.follows .tax fun _ => rfl
  | tay => exact Rule.follows .tay fun _ => rfl
  | txa => exact Rule.follows .txa fun _ => rfl
  | tya => exact Rule.follows .tya fun _ => rfl
  | tsx => exact Rule.follows .tsx fun _ => rfl
  | txs => exact Rule.follows .txs fun _ => rfl
  | pha => exact Rule.follows .pha fun _ => rfl
  | php => exact Rule.follows .php fun _ => rfl
  | pla => exact Rule.follows .pla fun _ => rfl
  | plp => exact Rule.follows .plp fun _ => rfl
  | adcImm | adcZp | adcZpX | adcAbs | adcAbsX | adcAbsY | adcIndX | adcIndY =>
    exact Rule.follows (.adc _) fun _ => rfl
  | sbcImm | sbcZp | sbcZpX | sbcAbs | sbcAbsX | sbcAbsY | sbcIndX | sbcIndY =>
    exact Rule.follows (.sbc _) fun _ => rfl
  | cmpImm | cmpZp | cmpZpX | cmpAbs | cmpAbsX | cmpAbsY | cmpIndX | cmpIndY =>
    exact Rule.follows (.cmp _) fun _ => rfl
  | cpxImm | cpxZp | cpxAbs => exact Rule.follows (.cpx _) fun _ => rfl
  | cpyImm | cpyZp | cpyAbs => exact Rule.follows (.cpy _) fun _ => rfl
  | incZp | incZpX | incAbs | incAbsX => exact Rule.follows (.inc _) fun _ => rfl
  | decZp | decZpX | decAbs | decAbsX => exact Rule.follows (.dec _) fun _ => rfl
  | inx => exact Rule.follows .inx fun _ => rfl
  | iny => exact Rule.follows .iny fun _ => rfl
  | dex => exact Rule.follows .dex fun _ => rfl
  | dey => exact Rule.follows .dey fun _ => rfl
  | andImm | andZp | andZpX | andAbs | andAbsX | andAbsY | andIndX | andIndY =>
    exact Rule.follows (.and _) fun _ => rfl
  | oraImm | oraZp | oraZpX | oraAbs | oraAbsX | oraAbsY | oraIndX | oraIndY =>
    exact Rule.follows (.ora _) fun _ => rfl
  | eorImm | eorZp | eorZpX | eorAbs | eorAbsX | eorAbsY | eorIndX | eorIndY =>
    exact Rule.follows (.eor _) fun _ => rfl
  | bitZp | bitAbs => exact Rule.follows (.bit _) fun _ => rfl
  | aslAcc | aslZp | aslZpX | aslAbs | aslAbsX => exact Rule.follows (.asl _) fun _ => rfl
  | lsrAcc | lsrZp | lsrZpX | lsrAbs | lsrAbsX => exact Rule.follows (.lsr _) fun _ => rfl
  | rolAcc | rolZp | rolZpX | rolAbs | rolAbsX => exact Rule.follows (.rol _) fun _ => rfl
  | rorAcc | rorZp | rorZpX | rorAbs | rorAbsX => exact Rule.follows (.ror _) fun _ => rfl
  | jmpAbs => exact Rule.follows (.jmpAbs _) fun _ => rfl
  | jmpInd => exact Rule.follows (.jmpInd _) fun _ => rfl
  | jsr => exact Rule.follows (.jsr _) fun _ => rfl
  | rts => exact Rule.follows .rts fun _ => rfl
  | rti => exact Rule.follows .rti fun _ => rfl
  | bcc => exact Rule.follows (.bcc _) fun _ => rfl
  | bcs => exact Rule.follows (.bcs _) fun _ => rfl
  | beq => exact Rule.follows (.beq _) fun _ => rfl
  | bne => exact Rule.follows (.bne _) fun _ => rfl
  | bmi => exact Rule.follows (.bmi _) fun _ => rfl
  | bpl => exact Rule.follows (.bpl _) fun _ => rfl
  | bvc => exact Rule.follows (.bvc _) fun _ => rfl
  | bvs => exact Rule.follows (.bvs _) fun _ => rfl
  | clc => exact Rule.follows .clc fun _ => rfl
  | cld => exact Rule.follows .cld fun _ => rfl
  | cli => exact Rule.follows .cli fun _ => rfl
  | clv => exact Rule.follows .clv fun _ => rfl
  | sec => exact Rule.follows .sec fun _ => rfl
  | sed => exact Rule.follows .sed fun _ => rfl
  | sei => exact Rule.follows .sei fun _ => rfl
  | nop => exact Rule.follows .nop fun _ => rfl
  | brk => exact Rule.follows .brk fun _ => rfl

/-! ### What an interrupt entry and a read-modify-write leave -/

/-- An interrupt entry moves SP past the three bytes it pushes (R464). -/
@[simp] theorem interruptEntry_sp (r vec : Word) (s : State) : (interruptEntry r vec s).sp = s.sp - 3#8 := by
  simp [interruptEntry_eq, sub_sub]
@[simp] theorem interruptEntry_a (r vec : Word) (s : State) : (interruptEntry r vec s).a = s.a := by
  simp [interruptEntry_eq]
@[simp] theorem interruptEntry_x (r vec : Word) (s : State) : (interruptEntry r vec s).x = s.x := by
  simp [interruptEntry_eq]
@[simp] theorem interruptEntry_y (r vec : Word) (s : State) : (interruptEntry r vec s).y = s.y := by
  simp [interruptEntry_eq]
@[simp] theorem interruptEntry_c (r vec : Word) (s : State) : (interruptEntry r vec s).c = s.c := by
  simp [interruptEntry_eq]
@[simp] theorem interruptEntry_z (r vec : Word) (s : State) : (interruptEntry r vec s).z = s.z := by
  simp [interruptEntry_eq]
@[simp] theorem interruptEntry_d (r vec : Word) (s : State) : (interruptEntry r vec s).d = s.d := by
  simp [interruptEntry_eq]
@[simp] theorem interruptEntry_b (r vec : Word) (s : State) : (interruptEntry r vec s).b = s.b := by
  simp [interruptEntry_eq]
@[simp] theorem interruptEntry_v (r vec : Word) (s : State) : (interruptEntry r vec s).v = s.v := by
  simp [interruptEntry_eq]
@[simp] theorem interruptEntry_n (r vec : Word) (s : State) : (interruptEntry r vec s).n = s.n := by
  simp [interruptEntry_eq]

@[simp] theorem modifyPlace_x (op : Byte → Bool → Byte × Bool) (place : Place) (s : State) :
    (modifyPlace op place s).x = s.x := by cases place <;> rfl
@[simp] theorem modifyPlace_y (op : Byte → Bool → Byte × Bool) (place : Place) (s : State) :
    (modifyPlace op place s).y = s.y := by cases place <;> rfl
@[simp] theorem modifyPlace_sp (op : Byte → Bool → Byte × Bool) (place : Place) (s : State) :
    (modifyPlace op place s).sp = s.sp := by cases place <;> rfl
@[simp] theorem modifyPlace_pc (op : Byte → Bool → Byte × Bool) (place : Place) (s : State) :
    (modifyPlace op place s).pc = s.pc + placeLength place := by cases place <;> rfl
@[simp] theorem modifyPlace_i (op : Byte → Bool → Byte × Bool) (place : Place) (s : State) :
    (modifyPlace op place s).i = s.i := by cases place <;> rfl
@[simp] theorem modifyPlace_d (op : Byte → Bool → Byte × Bool) (place : Place) (s : State) :
    (modifyPlace op place s).d = s.d := by cases place <;> rfl
@[simp] theorem modifyPlace_b (op : Byte → Bool → Byte × Bool) (place : Place) (s : State) :
    (modifyPlace op place s).b = s.b := by cases place <;> rfl
@[simp] theorem modifyPlace_v (op : Byte → Bool → Byte × Bool) (place : Place) (s : State) :
    (modifyPlace op place s).v = s.v := by cases place <;> rfl

/-! ### Who writes A, X and Y (R23) -/

section
variable {name : String} {mode : Mode} {f : State → State}

theorem Rule.keeps_a (h : Rule name mode f) (s : State)
    (hn : name ∉ ["LDA", "TXA", "TYA", "PLA", "ADC", "SBC", "AND", "ORA", "EOR"])
    (hacc : name ∉ ["ASL", "LSR", "ROL", "ROR"] ∨ mode ≠ .accumulator) : (f s).a = s.a := by
  cases h with
  | lda | txa | tya | pla | adc | sbc | and | ora | eor => simp at hn
  | asl place | lsr place | rol place | ror place =>
    cases place with
    | acc => simp at hacc
    | mem mode => rfl
  | brk => simp [softwareInterrupt]
  | _ => rfl

theorem Rule.keeps_x (h : Rule name mode f) (s : State) (hn : name ∉ ["LDX", "TAX", "TSX", "INX", "DEX"]) :
    (f s).x = s.x := by
  cases h with
  | ldx | tax | tsx | inx | dex => simp at hn
  | adc => exact addToA_x _ s
  | asl | lsr | rol | ror => exact modifyPlace_x _ _ s
  | brk => simp [softwareInterrupt]
  | _ => rfl

theorem Rule.keeps_y (h : Rule name mode f) (s : State) (hn : name ∉ ["LDY", "TAY", "INY", "DEY"]) :
    (f s).y = s.y := by
  cases h with
  | ldy | tay | iny | dey => simp at hn
  | adc => exact addToA_y _ s
  | asl | lsr | rol | ror => exact modifyPlace_y _ _ s
  | brk => simp [softwareInterrupt]
  | _ => rfl

/-! ### Who writes each flag (R32-R38) -/

theorem Rule.keeps_c (h : Rule name mode f) (s : State)
    (hn : name ∉ ["ADC", "SBC", "CMP", "CPX", "CPY", "ASL", "LSR", "ROL", "ROR", "CLC", "SEC", "PLP", "RTI"]) :
    (f s).c = s.c := by
  cases h with
  | adc | sbc | cmp | cpx | cpy | asl | lsr | rol | ror | clc | sec | plp | rti => simp at hn
  | brk => simp [softwareInterrupt]
  | _ => rfl

theorem Rule.keeps_z_n (h : Rule name mode f) (s : State)
    (hn : name ∉ ["LDA", "LDX", "LDY", "TAX", "TAY", "TXA", "TYA", "TSX", "PLA", "INC", "DEC", "INX", "INY", "DEX",
      "DEY", "AND", "ORA", "EOR", "ASL", "LSR", "ROL", "ROR", "ADC", "SBC", "CMP", "CPX", "CPY", "BIT", "PLP", "RTI"]) :
    (f s).z = s.z ∧ (f s).n = s.n := by
  cases h with
  | lda | ldx | ldy | tax | tay | txa | tya | tsx | pla | inc | dec | inx | iny | dex | dey | and | ora | eor | asl
  | lsr | rol | ror | adc | sbc | cmp | cpx | cpy | bit | plp | rti => simp at hn
  | brk => simp [softwareInterrupt]
  | _ => exact ⟨rfl, rfl⟩

theorem Rule.keeps_i (h : Rule name mode f) (s : State) (hn : name ∉ ["SEI", "CLI", "PLP", "RTI", "BRK"]) :
    (f s).i = s.i := by
  cases h with
  | sei | cli | plp | rti | brk => simp at hn
  | adc => exact addToA_i _ s
  | asl | lsr | rol | ror => exact modifyPlace_i _ _ s
  | _ => rfl

theorem Rule.keeps_d (h : Rule name mode f) (s : State) (hn : name ∉ ["SED", "CLD", "PLP", "RTI"]) :
    (f s).d = s.d := by
  cases h with
  | sed | cld | plp | rti => simp at hn
  | adc => exact addToA_d _ s
  | asl | lsr | rol | ror => exact modifyPlace_d _ _ s
  | brk => simp [softwareInterrupt]
  | _ => rfl

theorem Rule.keeps_b (h : Rule name mode f) (s : State) (hn : name ∉ ["BRK", "PLP", "RTI"]) : (f s).b = s.b := by
  cases h with
  | brk | plp | rti => simp at hn
  | adc => exact addToA_b _ s
  | asl | lsr | rol | ror => exact modifyPlace_b _ _ s
  | _ => rfl

theorem Rule.keeps_v (h : Rule name mode f) (s : State)
    (hn : name ∉ ["ADC", "SBC", "BIT", "CLV", "PLP", "RTI"]) : (f s).v = s.v := by
  cases h with
  | adc | sbc | bit | clv | plp | rti => simp at hn
  | asl | lsr | rol | ror => exact modifyPlace_v _ _ s
  | brk => simp [softwareInterrupt]
  | _ => rfl

/-! ### What SP and PC become (R26, R29) -/

theorem Rule.sp_eq (h : Rule name mode f) (s : State) :
    (f s).sp =
      if name ∈ ["PHA", "PHP"] then s.sp - 1#8
      else if name = "JSR" then s.sp - 2#8
      else if name = "BRK" then s.sp - 3#8
      else if name ∈ ["PLA", "PLP"] then s.sp + 1#8
      else if name = "RTS" then s.sp + 2#8
      else if name = "RTI" then s.sp + 3#8
      else if name = "TXS" then s.x
      else s.sp := by
  cases h with
  | jsr | brk => simp [callSubroutine, softwareInterrupt, sub_sub]
  | rts | rti => simp [returnFromSubroutine, popWord_eq, returnFromInterrupt_eq, add_assoc]
  | pla | plp => simp [pullA, popFlags_eq]
  | inc | dec => simp [modifyMemory]
  | bcc | bcs | beq | bne | bmi | bpl | bvc | bvs => simp [branch]
  | _ => simp

theorem Rule.pc_eq (h : Rule name mode f) (s : State)
    (hn : name ∉ ["JMP", "JSR", "RTS", "RTI", "BRK", "BCC", "BCS", "BEQ", "BNE", "BMI", "BPL", "BVC", "BVS"]) :
    (f s).pc = s.pc + modeLength mode := by
  cases h with
  | jmpAbs | jmpInd | jsr | rts | rti | brk | bcc | bcs | beq | bne | bmi | bpl | bvc | bvs => simp at hn
  | sta mode | stx mode | sty mode | inc mode | dec mode => exact congrArg (s.pc + ·) (addrLength_eq mode)
  | asl place | lsr place | rol place | ror place => rw [modifyPlace_pc, placeLength_eq]
  | adc src => rw [onSource_pc, addToA_pc, sourceLength_eq]
  | lda src | ldx src | ldy src | sbc src | cmp src | cpx src | cpy src | and src | ora src | eor src | bit src =>
    exact congrArg (s.pc + ·) (sourceLength_eq src)
  | _ => rfl

/-! ### The rules that read neither B nor D (R35, R36) -/

/-- The effect neither looks at B and D nor changes them. -/
def BreakDecimalBlind (f : State → State) : Prop :=
  ∀ (s : State) (b d : Bool), f { s with b := b, d := d } = { f s with b := b, d := d }

theorem BreakDecimalBlind.with_b (hf : BreakDecimalBlind f) (s : State) (b : Bool) :
    f { s with b := b } = { f s with b := b } ∧ (f s).b = s.b := by
  have h : f s = { f s with b := s.b, d := s.d } := hf s s.b s.d
  exact ⟨(hf s b s.d).trans (by rw [h]), by rw [h]⟩

theorem BreakDecimalBlind.with_d (hf : BreakDecimalBlind f) (s : State) (d : Bool) :
    f { s with d := d } = { f s with d := d } ∧ (f s).d = s.d := by
  have h : f s = { f s with b := s.b, d := s.d } := hf s s.b s.d
  exact ⟨(hf s s.b d).trans (by rw [h]), by rw [h]⟩

/-- An effective address looks at X, Y and memory only (R113-R121). -/
theorem effectiveAddress_with_b_d (mode : AddrMode) (s : State) (b d : Bool) :
    effectiveAddress mode { s with b := b, d := d } = effectiveAddress mode s := by
  cases mode <;> rfl

theorem operandValue_with_b_d (src : Source) (s : State) (b d : Bool) :
    operandValue src { s with b := b, d := d } = operandValue src s := by
  cases src with
  | imm value => rfl
  | mem mode => exact congrArg (memRead s) (effectiveAddress_with_b_d mode s b d)

/-- An effect on a source may name registers of its state, so the two states have an effect each. -/
theorem onSource_with_b_d {effect effect' : Byte → State → State} (src : Source) (s : State) (b d : Bool)
    (he : ∀ m, effect' m { s with b := b, d := d } = { effect m s with b := b, d := d }) :
    onSource effect' src { s with b := b, d := d } = { onSource effect src s with b := b, d := d } := by
  simp only [onSource, operandValue_with_b_d, he]
  rfl

theorem storeAt_with_b_d (v : Byte) (mode : AddrMode) (s : State) (b d : Bool) :
    storeAt v mode { s with b := b, d := d } = { storeAt v mode s with b := b, d := d } := by
  simp only [storeAt, effectiveAddress_with_b_d]
  rfl

theorem blind_modifyPlace (op : Byte → Bool → Byte × Bool) (place : Place) :
    BreakDecimalBlind (modifyPlace op place) := by
  intro s b d
  cases place with
  | acc => rfl
  | mem mode =>
    simp only [modifyPlace_mem, effectiveAddress_with_b_d]
    rfl

theorem Rule.blind (h : Rule name mode f)
    (hn : name ∉ ["ADC", "SBC", "CLD", "SED", "PLP", "RTI", "PHP", "BRK"]) : BreakDecimalBlind f := by
  cases h with
  | adc | sbc | cld | sed | plp | rti | php | brk => simp at hn
  | lda | ldx | ldy | cmp | cpx | cpy | and | ora | eor | bit =>
    exact fun s b d => onSource_with_b_d _ s b d fun _ => rfl
  | sta | stx | sty => exact fun s b d => storeAt_with_b_d _ _ s b d
  | inc | dec | asl | lsr | rol | ror => exact blind_modifyPlace _ _
  | _ => exact fun _ _ _ => rfl

/-! ### D before a rule (R35) -/

/-- CLD, SED, PLP and RTI overwrite D without reading it. -/
theorem Rule.overwrites_d (h : Rule name mode f) (hn : name ∈ ["CLD", "SED", "PLP", "RTI"]) (s : State) (d : Bool) :
    f { s with d := d } = f s := by
  cases h with
  | cld | sed | plp | rti => rfl
  | _ => simp at hn

/-- D before a rule that does not read it shows after the rule in D alone, and there only when the rule keeps D. -/
theorem Rule.with_d (h : Rule name mode f) (hn : name ∉ ["ADC", "SBC", "PHP", "BRK"]) (s : State) (d : Bool) :
    f { s with d := d } = f s ∨ f { s with d := d } = { f s with d := d } ∧ (f s).d = s.d := by
  by_cases hw : name ∈ ["CLD", "SED", "PLP", "RTI"]
  · exact .inl (h.overwrites_d hw s d)
  · exact .inr ((h.blind (by simp_all)).with_d s d)

/-! ### B before a rule (R36) -/

theorem addToA_with_b (m : Byte) (s : State) (b : Bool) :
    addToA m { s with b := b } = { addToA m s with b := b, d := s.d } := by
  unfold addToA decimalActive
  split <;> rfl

/-- ADC, SBC, CLD and SED neither look at B nor change it. -/
theorem Rule.passes_b (h : Rule name mode f) (hn : name ∈ ["ADC", "SBC", "CLD", "SED"]) (s : State) (b : Bool) :
    f { s with b := b } = { f s with b := b } := by
  cases h with
  | adc src =>
    have keeps_d : s.d = (onSource addToA src s).d := by simp
    exact (onSource_with_b_d src s b s.d fun m => addToA_with_b m s b).trans (by rw [keeps_d])
  | sbc => exact onSource_with_b_d _ s b s.d fun _ => rfl
  | cld | sed => rfl
  | _ => simp at hn

/-- PLP and RTI overwrite B without reading it. -/
theorem Rule.overwrites_b (h : Rule name mode f) (hn : name ∈ ["PLP", "RTI"]) (s : State) (b : Bool) :
    f { s with b := b } = f s := by
  cases h with
  | plp | rti => rfl
  | _ => simp at hn

/-- B before a rule that does not push it shows after the rule in B alone, and there only when the rule keeps B. -/
theorem Rule.with_b (h : Rule name mode f) (hn : name ∉ ["PHP", "BRK"]) (s : State) (b : Bool) :
    f { s with b := b } = f s ∨ f { s with b := b } = { f s with b := b } ∧ (f s).b = s.b := by
  by_cases hw : name ∈ ["PLP", "RTI"]
  · exact .inl (h.overwrites_b hw s b)
  by_cases hp : name ∈ ["ADC", "SBC", "CLD", "SED"]
  · exact .inr ⟨h.passes_b hp s b, h.keeps_b s (by simp_all)⟩
  · exact .inr ((h.blind (by simp_all)).with_b s b)

end

end Sys2Proof.Rules
end

section
/-! Proofs about spec/10_state.md: which instructions and pins write each register and flag (R23-R38), what SP and PC
become (R26, R29), that no rule but the listed ones reads D or B (R35, R36), and the host port (R41, R66). -/

namespace Sys2Proof.StateVector

open Sys2Proof.Machine Sys2Proof.Laws Sys2Proof.Scope Sys2Proof.Rules

/-! ### The writers of each register and flag -/

/-- An IRQ is lost, or it is an interrupt entry (R463). -/
theorem irqPin_cases (s : State) : irqPin s = s ∨ irqPin s = interruptEntry s.pc irqVector s := by
  unfold irqPin
  split
  · exact .inl rfl
  · exact .inr rfl

/-- A transaction that is no step changes nothing, or it is RESET, an interrupt entry or a host write (R41, R465). -/
theorem transact_cases {tr : Transaction} {s t : State} (htr : tr ≠ .step) (h : transact tr s = .next t) :
    t = s ∨ t = resetPin s ∨ (∃ vec, t = interruptEntry s.pc vec s) ∨ ∃ addr v, t = memWrite s addr v := by
  have irq : ∀ u, u = irqPin s → u = s ∨ ∃ vec, u = interruptEntry s.pc vec s := fun u hu =>
    (irqPin_cases s).imp hu.trans fun e => ⟨irqVector, hu.trans e⟩
  cases tr with
  | step => exact absurd rfl htr
  | reset =>
    cases h
    exact .inr (.inl rfl)
  | nmi =>
    cases h
    exact .inr (.inr (.inl ⟨nmiVector, rfl⟩))
  | irq =>
    cases h
    exact (irq _ rfl).imp_right fun e => .inr (.inl e)
  | pins set =>
    cases h
    obtain hp | hp | hp | hp := pins_cases set s
    · exact .inr (.inl hp)
    · exact .inr (.inr (.inl ⟨nmiVector, hp⟩))
    · exact (irq _ hp).imp_right fun e => .inr (.inl e)
    · exact .inl hp
  | hostWrite addr value =>
    cases h
    exact .inr (.inr (.inr ⟨addr, value, rfl⟩))

/-- Settles O15: the instructions by their rules, the pins and the host write by `transact_cases`. -/
theorem onlyListedInstructionsWriteDataRegisters : Obligations.OnlyListedInstructionsWriteDataRegisters := by
  refine ⟨fun i s t h => ?_, fun tr s t htr h => ?_, fun s t h => ?_⟩
  · obtain ⟨f, hf, hr⟩ := follows_rule i
    obtain rfl := hf.eq_of_exec h
    exact ⟨hr.keeps_a s, hr.keeps_x s, hr.keeps_y s⟩
  · obtain rfl | rfl | ⟨vec, rfl⟩ | ⟨addr, v, rfl⟩ := transact_cases htr h <;> simp
  · cases h
    simp [softwareInterrupt]

/-- Settles O16: the instructions by their rules, the pins and the host write by `transact_cases`. -/
theorem onlyListedInstructionsWriteFlags : Obligations.OnlyListedInstructionsWriteFlags := by
  refine ⟨fun i s t h => ?_, fun tr s t htr h => ?_, fun s => ⟨interruptEntry_b _ _ s, ?_⟩, fun _ _ _ => ⟨rfl, rfl⟩⟩
  · obtain ⟨f, hf, hr⟩ := follows_rule i
    obtain rfl := hf.eq_of_exec h
    exact ⟨hr.keeps_c s, hr.keeps_z_n s, hr.keeps_i s, hr.keeps_d s, hr.keeps_b s, hr.keeps_v s⟩
  · obtain rfl | rfl | ⟨vec, rfl⟩ | ⟨addr, v, rfl⟩ := transact_cases htr h <;> simp
  · obtain e | e := irqPin_cases s <;> simp [e]

/-- Settles O17: by `Rule.sp_eq`. -/
theorem onlyStackInstructionsMoveSp : Obligations.OnlyStackInstructionsMoveSp := by
  intro i s t h
  obtain ⟨f, hf, hr⟩ := follows_rule i
  obtain rfl := hf.eq_of_exec h
  exact hr.sp_eq s

/-- Settles O20: PC moves by the length of the mode, which is the length of the encoding. -/
theorem pcAdvancesByLengthUnlessTransferred : Obligations.PcAdvancesByLengthUnlessTransferred := by
  intro i s t h hn
  obtain ⟨f, hf, hr⟩ := follows_rule i
  obtain rfl := hf.eq_of_exec h
  rw [hr.pc_eq s hn, modeLength, ← length_encode, BitVec.toNat_add, BitVec.toNat_ofNat, Nat.add_mod_mod]

/-! ### The decimal flag (R35, R286) -/

/-- Settles O11: by `Rule.with_d`. -/
theorem decimalFlagReadOnlyByAdcSbcAndPushes : Obligations.DecimalFlagReadOnlyByAdcSbcAndPushes := by
  intro i s t d hn h
  obtain ⟨f, hf, hr⟩ := follows_rule i
  obtain rfl := hf.eq_of_exec h
  refine ⟨f { s with d := d }, hf _, ?_⟩
  obtain e | ⟨e, kept⟩ := hr.with_d hn s d
  · rw [e]
    exact ⟨rfl, .inl rfl⟩
  · rw [e]
    exact ⟨rfl, .inr ⟨rfl, kept⟩⟩

/-! ### The break flag (R36, R143) -/

/-- The status bytes of two values of B differ in bit 4 only (R31). -/
theorem getLsbD_statusByte_with_b (s : State) (b : Bool) (j : Nat) (hj : j ≠ 4) :
    (statusByte { s with b := b }).getLsbD j = (statusByte s).getLsbD j := by
  change bitAt _ j = bitAt _ j
  rw [bitAt_statusByte, bitAt_statusByte]
  split
  case h_5 => exact absurd rfl hj
  all_goals rfl

/-- Memory reads the same after the two runs, but for bit 4 of the byte at `slot`. -/
def AgreeButBit4 (slot : Word) (t u : State) : Prop :=
  (∀ k, k ≠ slot → memRead u k = memRead t k) ∧
  ∀ (k : Word) (j : Nat), j ≠ 4 → (memRead u k).getLsbD j = (memRead t k).getLsbD j

theorem agreeButBit4_of_status {slot : Word} {s t u : State} {b : Bool} (ht : memRead t slot = statusByte s)
    (hu : memRead u slot = statusByte { s with b := b }) (other : ∀ k, k ≠ slot → memRead u k = memRead t k) :
    AgreeButBit4 slot t u := by
  refine ⟨other, fun k j hj => ?_⟩
  by_cases hk : k = slot
  · rw [hk, hu, ht, getLsbD_statusByte_with_b s b j hj]
  · rw [other k hk]

/-- PHP pushes the status at {0x01, SP} (R248). -/
theorem php_with_b (s : State) (b : Bool) :
    AgreeButBit4 (stackAddress s.sp) (implied pushFlags s) (implied pushFlags { s with b := b }) := by
  have pushed : ∀ r k, memRead (implied pushFlags r) k = if k = stackAddress r.sp then statusByte r else memRead r k :=
    memRead_pushFlags
  refine agreeButBit4_of_status (s := s) (b := b) (by simp [pushed]) (by simp [pushed]) fun k hk => ?_
  rw [pushed, pushed, if_neg hk, if_neg hk]
  rfl

/-- BRK reads its vector as it was before the pushes (R429). -/
theorem softwareInterrupt_eq (s : State) :
    softwareInterrupt s =
      { savedState (s.pc + 2#16) s with i := true, b := true, pc := readWord s irqVector } := by
  rw [softwareInterrupt, interruptEntry_eq, readWord_savedState _ _ _ (by decide) (by decide)]

/-- BRK pushes the status at {0x01, SP - 2}, under the return address (R429). -/
theorem brk_with_b (s : State) (b : Bool) :
    AgreeButBit4 (stackAddress (s.sp - 2#8)) (softwareInterrupt s) (softwareInterrupt { s with b := b }) := by
  have pushed : ∀ r k, memRead (softwareInterrupt r) k =
      if k = stackAddress (r.sp - 2#8) then statusByte r
      else if k = stackAddress (r.sp - 1#8) then lowByte (r.pc + 2#16)
      else if k = stackAddress r.sp then highByte (r.pc + 2#16)
      else memRead r k := by
    intro r k
    rw [show r.sp - 2#8 = r.sp - 1#8 - 1#8 from (sub_sub r.sp 1#8 1#8).symm]
    exact memRead_savedState (r.pc + 2#16) r k
  refine agreeButBit4_of_status (s := s) (b := b) (by simp [pushed]) (by simp [pushed]) fun k hk => ?_
  rw [pushed, pushed, if_neg hk, if_neg hk]
  rfl

/-- What B before an instruction may change in memory (R36): the pushed status byte of PHP or BRK, in bit 4. -/
def StatusApart (name : String) (sp : Byte) (t u : State) : Prop :=
  (name ∉ ["PHP", "BRK"] → u.mem = t.mem) ∧
  (name = "PHP" → ∀ k : Word, k ≠ stackAddress sp → memRead u k = memRead t k) ∧
  (name = "BRK" → ∀ k : Word, k ≠ stackAddress (sp - 2#8) → memRead u k = memRead t k) ∧
  ∀ (k : Word) (j : Nat), j ≠ 4 → (memRead u k).getLsbD j = (memRead t k).getLsbD j

theorem statusApart_of_mem_eq {name : String} {sp : Byte} {t u : State} (h : u.mem = t.mem) :
    StatusApart name sp t u := by
  have read : ∀ k, memRead u k = memRead t k := fun k => memRead_congr u t k h
  exact ⟨fun _ => h, fun _ k _ => read k, fun _ k _ => read k, fun k _ _ => by rw [read k]⟩

theorem statusApart_php {sp : Byte} {t u : State} (h : AgreeButBit4 (stackAddress sp) t u) :
    StatusApart "PHP" sp t u := ⟨fun hn => by simp at hn, fun _ => h.1, fun hn => by simp at hn, h.2⟩

theorem statusApart_brk {sp : Byte} {t u : State} (h : AgreeButBit4 (stackAddress (sp - 2#8)) t u) :
    StatusApart "BRK" sp t u := ⟨fun hn => by simp at hn, fun hn => by simp at hn, fun _ => h.1, h.2⟩

/-- B before an instruction shows after it in B, where the instruction keeps B, and in memory as `StatusApart` says. -/
theorem rule_with_b {name : String} {mode : Mode} {f : State → State} (h : Rule name mode f) (s : State) (b : Bool) :
    ∃ b' m, f { s with b := b } = { f s with b := b', mem := m } ∧ (b' = (f s).b ∨ b' = b ∧ (f s).b = s.b) ∧
      StatusApart name s.sp (f s) (f { s with b := b }) := by
  by_cases hn : name ∉ ["PHP", "BRK"]
  · obtain e | ⟨e, kept⟩ := h.with_b hn s b
    · exact ⟨(f s).b, (f s).mem, e, .inl rfl, statusApart_of_mem_eq (by rw [e])⟩
    · exact ⟨b, (f s).mem, e, .inr ⟨rfl, kept⟩, statusApart_of_mem_eq (by rw [e])⟩
  · cases h with
    | php => exact ⟨b, _, rfl, .inr ⟨rfl, rfl⟩, statusApart_php (php_with_b s b)⟩
    | brk =>
      refine ⟨true, (softwareInterrupt { s with b := b }).mem, ?_, .inl rfl, statusApart_brk (brk_with_b s b)⟩
      rw [softwareInterrupt_eq, softwareInterrupt_eq]
      rfl
    | _ => simp at hn

theorem step_of_fetch {s : State} {i : Instr} (h : fetchInstr s = some i) : step s = exec i s := by
  rw [step, h]

/-- A step that faults met an illegal opcode: every instruction completes (R470). -/
theorem step_fault {s : State} {e : Fault} (h : step s = .fault e) :
    fetchInstr s = none ∧ e = .illegalOpcode (fetchByte s 0) := by
  unfold step at h
  split at h
  · next i hi =>
    obtain ⟨f, hf, -⟩ := follows_rule i
    cases (hf s).symm.trans h
  · next hnone =>
    cases h
    exact ⟨hnone, rfl⟩

/-- Settles O10: a fetch does not read B, so both steps run the same instruction, and `rule_with_b` compares the two. -/
theorem breakFlagNeverStopsTheCore : Obligations.BreakFlagNeverStopsTheCore := by
  refine fun s b => ⟨fun t ht => ?_, fun e he => ?_⟩
  · obtain ⟨i, hfetch, hexec⟩ := step_next s t ht
    obtain ⟨f, hf, hr⟩ := follows_rule i
    obtain rfl := hf.eq_of_exec hexec
    obtain ⟨b', m, hu, hb, apart⟩ := rule_with_b hr s b
    refine ⟨_, (step_of_fetch (s := { s with b := b }) hfetch).trans (hf _), ?_⟩
    rw [hu] at apart ⊢
    refine ⟨rfl, rfl, rfl, rfl, rfl, rfl, rfl, rfl, rfl, rfl, rfl, rfl, hb, fun j hj => ?_⟩
    obtain rfl := Option.some.inj (hfetch.symm.trans hj)
    exact apart
  · obtain ⟨hnone, rfl⟩ := step_fault he
    have hfetch : fetchInstr { s with b := b } = none := hnone
    rw [step, hfetch]
    rfl

/-! ### The host port (R41, R66) -/

/-- Without the cells of its address an insertion is what it was inserted into. -/
theorem filter_insertCell (cell : Host.Cell) (m : Memory) :
    (Memory.insertCell cell m).filter (fun p => p.1 != cell.1) = m.filter (fun p => p.1 != cell.1) := by
  induction m with
  | nil => simp [Memory.insertCell]
  | cons p rest ih =>
    unfold Memory.insertCell
    split
    · simp
    · simp [List.filter_cons, ih]

/-- A write replaces an earlier write to the same address, as lists of cells. -/
theorem Memory_write_write (m : Memory) (addr : Word) (v w : Byte) :
    Memory.write (Memory.write m addr v) addr w = Memory.write m addr w := by
  have h : (Memory.write m addr v).filter (fun p => p.1 != addr.toNat) = m.filter (fun p => p.1 != addr.toNat) := by
    unfold Memory.write
    split
    · simp
    · rw [filter_insertCell (addr.toNat, v)]
      simp
  rw [Memory.write, h]
  rfl

theorem memWrite_memWrite (s : State) (addr : Word) (v w : Byte) :
    memWrite (memWrite s addr v) addr w = memWrite s addr w :=
  congrArg (fun m => { s with mem := m }) (Memory_write_write s.mem addr v w)

/-- The k-th byte of the snapshot is the byte at address k (R41). -/
theorem snapshot_getElem? (s : State) (k : Word) : (snapshot s)[k.toNat]? = some (memRead s k) := by
  have hk : k.toNat < 65536 := k.isLt
  simp [snapshot, hk]

/-- Settles O25: read after write, and `memWrite_memWrite` for the repeated write. -/
theorem hostPortReadsAndWritesPlainMemory : Obligations.HostPortReadsAndWritesPlainMemory := fun s addr v =>
  ⟨fun k => memRead_memWrite s addr k v, rfl, by simp [snapshot], snapshot_getElem? s,
    fun _ => memWrite_memWrite s addr v v⟩

/-- Settles O55: `reset_is_resetPin`; the four values are those of the RESET transaction. -/
theorem resetStateIsResetOfPowerOn : Obligations.ResetStateIsResetOfPowerOn :=
  ⟨reset_is_resetPin, fun draw => ⟨rfl, rfl, rfl, rfl, rfl, rfl, rfl, by decide⟩⟩

end Sys2Proof.StateVector
end

section
/-! What each rule does to memory, once: the addresses it may write, and that its memory after is its memory before with
writes at those addresses (`Rule.written`). The frame of an instruction and the canonical form follow from that. -/

namespace Sys2Proof.Rules

open Sys2Proof.Machine Sys2Proof.Laws Sys2Proof.Scope

/-! ### Writes at some addresses -/

/-- `m'` is `m` after any number of byte writes, each at an address that satisfies `P`. -/
inductive Written (P : Word → Prop) (m : Memory) : Memory → Prop
  | refl : Written P m m
  | write {m' : Memory} {addr : Word} {v : Byte} (hm : Written P m m') (ha : P addr) :
      Written P m (Memory.write m' addr v)

section
variable {P Q : Word → Prop} {m m' : Memory}

theorem Written.mono (h : Written P m m') (hPQ : ∀ k, P k → Q k) : Written Q m m' := by
  induction h with
  | refl => exact .refl
  | write _ ha ih => exact ih.write (hPQ _ ha)

/-- Writes keep the canonical form (R63). -/
theorem Written.wf (h : Written P m m') (hm : Memory.wf m) : Memory.wf m' := by
  induction h with
  | refl => exact hm
  | write _ _ ih => exact Memory_write_wf _ _ _ ih

/-- A byte at an address that is not written reads as before (R63). -/
theorem Written.read_eq (h : Written P m m') {k : Word} (hk : ¬ P k) : Memory.read m' k = Memory.read m k := by
  induction h with
  | refl => rfl
  | write _ ha ih =>
    rw [Memory_read_write, ih, if_neg]
    rintro rfl
    exact hk ha

/-- Where no address may be written, the memory is the same list. -/
theorem Written.eq_of_forall_not (h : Written P m m') (hP : ∀ k, ¬ P k) : m' = m := by
  cases h with
  | refl => rfl
  | write _ ha => exact absurd ha (hP _)

end

/-! ### The writes of the shared operations -/

/-- The address is a stack slot's (R29). -/
def InStackPage (k : Word) : Prop := highByte k = stackPage

theorem inStackPage_iff (k : Word) : InStackPage k ↔ 0x0100 ≤ k.toNat ∧ k.toNat ≤ 0x01FF := by
  rw [InStackPage, ← BitVec.toNat_inj, toNat_highByte, show stackPage.toNat = 1 from rfl]
  omega

theorem inStackPage_stackAddress (p : Byte) : InStackPage (stackAddress p) := highByte_stackAddress p

theorem written_pushByte (v : Byte) (s : State) : Written InStackPage s.mem (pushByte v s).mem :=
  .write .refl (inStackPage_stackAddress _)

theorem written_pushWord (w : Word) (s : State) : Written InStackPage s.mem (pushWord w s).mem :=
  .write (written_pushByte _ s) (inStackPage_stackAddress _)

theorem written_interruptEntry (r vec : Word) (s : State) :
    Written InStackPage s.mem (interruptEntry r vec s).mem :=
  .write (written_pushWord r s) (inStackPage_stackAddress _)

theorem written_softwareInterrupt (s : State) : Written InStackPage s.mem (softwareInterrupt s).mem :=
  written_interruptEntry (s.pc + 2#16) irqVector s

theorem written_irqPin (s : State) : Written InStackPage s.mem (irqPin s).mem := by
  unfold irqPin
  split
  · exact .refl
  · exact written_interruptEntry s.pc irqVector s

theorem written_modifyPlace_mem {P : Word → Prop} (op : Byte → Bool → Byte × Bool) (mode : AddrMode) (s : State)
    (hP : P (effectiveAddress mode s)) : Written P s.mem (modifyPlace op (.mem mode) s).mem := by
  rw [modifyPlace_mem]
  exact .write .refl hP

/-! ### The writes of each rule -/

/-- The mnemonics that push (R70, R429). -/
def pushers : List String := ["PHA", "PHP", "JSR", "BRK"]

/-- The mnemonics with a form that writes memory (R67). -/
def writers : List String :=
  ["STA", "STX", "STY", "INC", "DEC", "ASL", "LSR", "ROL", "ROR", "PHA", "PHP", "JSR", "BRK"]

/-- An instruction of this mnemonic and this mode may write the byte at `k`: never outside `writers`, never in a form on the
accumulator, and a push only in the stack page. -/
def MayWrite (name : String) (mode : Mode) (k : Word) : Prop :=
  name ∈ writers ∧ mode ≠ .accumulator ∧ (name ∈ pushers → InStackPage k)

@[simp] theorem addrTag_ne_accumulator (mode : AddrMode) : addrTag mode ≠ .accumulator := by
  cases mode <;> simp

/-- A store or a read-modify-write of memory may write any byte. -/
theorem mayWrite_addrTag {name : String} (mode : AddrMode) (k : Word) (hw : name ∈ writers) (hp : name ∉ pushers) :
    MayWrite name (addrTag mode) k := ⟨hw, addrTag_ne_accumulator mode, fun h => absurd h hp⟩

/-- A writer in a form off the accumulator may write any byte of the stack page. -/
theorem mayWrite_of_inStackPage {name : String} {mode : Mode} (hw : name ∈ writers) (hm : mode ≠ .accumulator) (k : Word)
    (hk : InStackPage k) : MayWrite name mode k := ⟨hw, hm, fun _ => hk⟩

/-- Every rule leaves the memory it found, with writes where its mnemonic and mode allow them. -/
theorem Rule.written {name : String} {mode : Mode} {f : State → State} (h : Rule name mode f) (s : State) :
    Written (MayWrite name mode) s.mem (f s).mem := by
  cases h with
  | sta mode | stx mode | sty mode => exact .write .refl (mayWrite_addrTag mode _ (by decide) (by decide))
  | inc mode | dec mode =>
    exact written_modifyPlace_mem _ mode s (mayWrite_addrTag mode _ (by decide) (by decide))
  | asl place | lsr place | rol place | ror place =>
    cases place with
    | acc => exact .refl
    | mem mode => exact written_modifyPlace_mem _ mode s (mayWrite_addrTag mode _ (by decide) (by decide))
  | pha | php => exact (written_pushByte _ s).mono (mayWrite_of_inStackPage (by decide) (by decide))
  | jsr => exact (written_pushWord _ s).mono (mayWrite_of_inStackPage (by decide) (by decide))
  | brk => exact (written_softwareInterrupt s).mono (mayWrite_of_inStackPage (by decide) (by decide))
  | adc src =>
    rw [onSource_mem, addToA_mem]
    exact .refl
  | _ => exact .refl

end Sys2Proof.Rules
end

section
/-! Proofs about spec/20_memory.md: the canonical form of memory (log entry 2), which instructions write memory and where
(R67, R77), and the stack unit (R70-R77). -/

namespace Sys2Proof.MemoryAndStack

open Sys2Proof.Machine Sys2Proof.Laws Sys2Proof.Scope Sys2Proof.Rules Sys2Proof.StateVector

/-! ### The canonical form -/

theorem step_inv {s t : State} (hs : Safety.Inv s) (h : step s = .next t) : Safety.Inv t := by
  obtain ⟨i, -, hi⟩ := step_next s t h
  obtain ⟨f, hf, hr⟩ := follows_rule i
  obtain rfl := hf.eq_of_exec hi
  exact (hr.written s).wf hs

theorem transact_inv {tr : Transaction} {s t : State} (hs : Safety.Inv s) (h : transact tr s = .next t) :
    Safety.Inv t := by
  by_cases htr : tr = .step
  · subst htr
    exact step_inv hs h
  · obtain rfl | rfl | ⟨vec, rfl⟩ | ⟨addr, v, rfl⟩ := transact_cases htr h
    · exact hs
    · exact hs
    · exact interruptEntry_inv _ vec s hs
    · exact memWrite_inv s addr v hs

/-- Settles O13: a step's memory is the memory before it after writes (`Rule.written`), and a write keeps the form. -/
theorem everyStepKeepsMemoryCanonical : Obligations.EveryStepKeepsMemoryCanonical :=
  ⟨fun _ _ => step_inv, fun _ _ _ => transact_inv⟩

/-- A canonical memory lists exactly the bytes that do not read as unlisted ones (R63). -/
theorem mem_iff_read {m : Memory} (hm : Memory.wf m) (p : Host.Cell) :
    p ∈ m ↔ p.1 < 65536 ∧ p.2 ≠ unlistedByte ∧ Memory.read m (BitVec.ofNat 16 p.1) = p.2 := by
  obtain ⟨rising, listed⟩ := hm
  have number : p.1 < 65536 → (BitVec.ofNat 16 p.1).toNat = p.1 := fun h => by simpa using h
  constructor
  · intro hp
    obtain ⟨below, value⟩ := listed p hp
    refine ⟨below, value, ?_⟩
    rw [Memory.read, number below, lookup_of_mem m rising p hp, Option.getD_some]
  · rintro ⟨below, value, hread⟩
    rw [Memory.read, number below] at hread
    cases hl : m.lookup p.1 with
    | none => exact absurd (by simpa [hl] using hread.symm) value
    | some v =>
      obtain rfl : v = p.2 := by simpa [hl] using hread
      obtain ⟨before, after, rfl, -⟩ := List.lookup_eq_some_iff.mp hl
      simp

/-- Settles O24: both lists hold the same cells by `mem_iff_read`, and rising addresses leave one order for them. -/
theorem equalContentsAreEqualMemories : Obligations.EqualContentsAreEqualMemories := by
  intro s t hs ht h
  have irrefl : Std.Irrefl fun p q : Host.Cell => p.1 < q.1 := ⟨fun p => Nat.lt_irrefl p.1⟩
  have antisymm : Std.Antisymm fun p q : Host.Cell => p.1 < q.1 := ⟨fun _ _ hpq hqp => absurd hqp hpq.asymm⟩
  refine hs.1.eq_of_mem_iff ht.1 fun p => ?_
  rw [mem_iff_read hs, mem_iff_read ht]
  exact and_congr_right fun _ => and_congr_right fun _ => iff_of_eq (congrArg (· = p.2) (h _))

/-! ### Who writes memory, and where (R67, R77) -/

/-- Settles O18: such an instruction may write no address. -/
theorem nonStoringInstructionsLeaveMemory : Obligations.NonStoringInstructionsLeaveMemory := by
  refine ⟨fun i s t h hi => ?_, fun s k => memRead_congr _ s k (resetPin_mem s)⟩
  obtain ⟨f, hf, hr⟩ := follows_rule i
  obtain rfl := hf.eq_of_exec h
  have same : (f s).mem = s.mem := by
    refine (hr.written s).eq_of_forall_not ?_
    rintro k ⟨writes, form, -⟩
    exact hi.elim (absurd writes) form
  exact ⟨same, fun k => memRead_congr _ s k same⟩

/-- Settles O19: every write of a pusher or of an interrupt entry is in the stack page. -/
theorem pushesWriteOnlyTheStackPage : Obligations.PushesWriteOnlyTheStackPage := by
  intro s k hk
  have outside : ¬ InStackPage k := by
    rw [inStackPage_iff]
    omega
  refine ⟨fun i t hi h => ?_, (written_interruptEntry _ _ s).read_eq outside, (written_irqPin s).read_eq outside⟩
  obtain ⟨f, hf, hr⟩ := follows_rule i
  obtain rfl := hf.eq_of_exec h
  refine (hr.written s).read_eq ?_
  rintro ⟨-, -, inPage⟩
  exact outside (inPage hi)

/-! ### The stack unit (R70-R77) -/

/-- A byte pull after a byte push restores all but the memory (R76). -/
@[simp] theorem popByte_pushByte (v : Byte) (s : State) :
    popByte (pushByte v s) = (v, { s with mem := (pushByte v s).mem }) := by
  simp [popByte, memRead_pushByte]

/-- A word pull after a word push restores all but the memory: the low byte's slot is not the high byte's (R76). -/
theorem popWord_pushWord (w : Word) (s : State) :
    popWord (pushWord w s) = (w, { s with mem := (pushWord w s).mem }) := by
  rw [popWord_eq, pushWord_sp, sub_add_cancel, sub_add_cancel]
  have apart : s.sp ≠ s.sp - 1#8 := by bv_omega
  simp [memRead_pushWord, apart]

/-- A status pull after a status push restores all seven flags (R76). -/
theorem popFlags_pushFlags (s : State) : popFlags (pushFlags s) = { s with mem := (pushFlags s).mem } := by
  simp [popFlags, pushFlags, setStatus_statusByte]

/-- As many pulls as pushes restore SP: the last pull undoes the first push (R76). -/
theorem sp_pops_after_pushes (s : State) (vs : List Byte) :
    ((fun u : State => (popByte u).2)^[vs.length] (vs.foldl (fun u v => pushByte v u) s)).sp = s.sp := by
  induction vs generalizing s with
  | nil => rfl
  | cons v vs ih => simp [Function.iterate_succ_apply', ih]

/-- Settles O26: a pull gives back what a push of the same kind left, and SP moves modulo 256. -/
theorem popsUndoPushes : Obligations.PopsUndoPushes := by
  refine ⟨fun s w => ?_, fun s v => ?_, sp_pops_after_pushes, popFlags_pushFlags, fun s v => ⟨?_, ?_⟩⟩
  · simp [popWord_pushWord]
  · simp
  · rw [pushByte_sp]
    bv_omega
  · rw [popByte_snd_sp]
    bv_omega

/-- Settles O27: each byte after the pushes by `memRead_pushByte` and `memRead_pushWord`, the slots then read as numbers. -/
theorem pushedWordIsLittleEndian : Obligations.PushedWordIsLittleEndian := by
  refine ⟨fun s v => ⟨rfl, fun k => ?_⟩, fun s w => ⟨?_, fun k => ?_⟩⟩
  · simp only [memRead_pushByte, eq_stackAddress_iff]
  · rw [show s.sp - 2#8 = s.sp - 1#8 - 1#8 from (sub_sub s.sp 1#8 1#8).symm]
    rfl
  · have low : s.sp - 1#8 - 1#8 + 1#8 = s.sp - 1#8 := by bv_omega
    have high : s.sp - 1#8 - 1#8 + 2#8 = s.sp := by bv_omega
    rw [pushWord_sp, low, high]
    simp only [memRead_pushWord, eq_stackAddress_iff, apply_ite BitVec.toNat, toNat_lowByte, toNat_highByte]

/-- Settles O28: the general rules of a push and a pull at the two ends of the page. -/
theorem stackWrapsInItsPage : Obligations.StackWrapsInItsPage := by
  refine ⟨fun s v h => ⟨?_, fun k => ?_⟩, fun s h => ⟨?_, ?_⟩,
    fun p => (inStackPage_iff _).mp (inStackPage_stackAddress p)⟩
  · rw [pushByte_sp, h]
    rfl
  · rw [memRead_pushByte, h]
    rfl
  · rw [popByte_snd_sp, h]
    rfl
  · rw [popByte_fst, h]
    rfl

end Sys2Proof.MemoryAndStack
end

section
/-! Proofs about the formats of spec/30_encoding.md: the opcode table agrees with the encoder row by row, so the decoder and
the encoder are inverse (R100-R102, R131); which opcodes are illegal (R132) and which have a mode; and what a step runs
(R140). -/

namespace Sys2Proof.Encoding

open Sys2Proof.Machine Sys2Proof.Laws Sys2Proof.Scope Sys2Proof.Rules Sys2Proof.StateVector

/-! ### The table and the encoder -/

/-- Every instruction that the table's row makes has `op` and then its operand bytes as its encoding, as many as the row's
mode asks; an illegal opcode's entry makes none. -/
def RowEncodes (op : Byte) : Option OpcodeEntry → Prop
  | none => True
  | some ⟨_, mode, _, .f1 instr⟩ => modeBytes mode = 0 ∧ encode instr = [op]
  | some ⟨_, mode, _, .f2 instr⟩ => modeBytes mode = 1 ∧ ∀ b1, encode (instr b1) = [op, b1]
  | some ⟨_, mode, _, .f3 instr⟩ => modeBytes mode = 2 ∧ ∀ w, encode (instr w) = [op, lowByte w, highByte w]

/-- `RowEncodes` for a stretch of the table that starts at opcode `n`. -/
def RowsEncode : Nat → List (Option OpcodeEntry) → Prop
  | _, [] => True
  | n, row :: rest => RowEncodes (BitVec.ofNat 8 n) row ∧ RowsEncode (n + 1) rest

theorem RowsEncode.getD {rows : List (Option OpcodeEntry)} {n : Nat} (h : RowsEncode n rows) (k : Nat) :
    RowEncodes (BitVec.ofNat 8 (n + k)) (rows.getD k none) := by
  induction rows generalizing n k with
  | nil => trivial
  | cons row rest ih =>
    obtain ⟨here, later⟩ := h
    cases k with
    | zero => exact here
    | succ k =>
      rw [← Nat.add_assoc, Nat.add_right_comm]
      exact ih later k

/-- The per-mnemonic list that `encode` is written from agrees with the opcode map, line by line (R131). -/
theorem rowsEncode_opcodeRows (r : Nat) (hr : r < 16) : RowsEncode (16 * r) (opcodeRows.getD r []) := by
  interval_cases r <;>
    simp [opcodeRows, opcodeRow0, opcodeRow1, opcodeRow2, opcodeRow3, opcodeRow4, opcodeRow5, opcodeRow6, opcodeRow7,
      opcodeRow8, opcodeRow9, opcodeRowA, opcodeRowB, opcodeRowC, opcodeRowD, opcodeRowE, opcodeRowF,
      RowsEncode, RowEncodes, encode, modeBytes]

theorem rowEncodes_of_opcodeEntry {op : Byte} {e : OpcodeEntry} (h : opcodeEntry op = some e) :
    RowEncodes op (some e) := by
  have hr : op.toNat / 16 < 16 := by omega
  have hrow := (rowsEncode_opcodeRows _ hr).getD (op.toNat % 16)
  rwa [Nat.div_add_mod, BitVec.ofNat_toNat, BitVec.setWidth_eq, ← opcodeEntry, h] at hrow

/-- The format makes this instruction, of some operand bytes (R101). -/
def Makes : Format → Instr → Prop
  | .f1 instr, i => instr = i
  | .f2 instr, i => ∃ b1, instr b1 = i
  | .f3 instr, i => ∃ w, instr w = i

/-- Every instruction is made by the row under its own opcode. -/
theorem entryOf_makes (i : Instr) : ∃ e, entryOf i = some e ∧ Makes e.format i := by
  cases i <;> simp [Makes]

/-! ### The decoder -/

/-- The decoder reads an encoding back, whatever follows it: the row under the opcode made the instruction, so its format
is the one that the encoding has (R100, R101). -/
theorem decodeBytes_of_encode (i : Instr) (rest : List Byte) : decodeBytes (encode i ++ rest) = .instr i rest := by
  obtain ⟨⟨name, mode, cost, format⟩, he, hi⟩ := entryOf_makes i
  have hrow := rowEncodes_of_opcodeEntry he
  cases format with
  | f1 instr =>
    obtain rfl := hi
    obtain ⟨hlen, henc⟩ := hrow
    simp [henc, decodeBytes, ← entryOf_eq _ _ _ henc, he, hlen, buildInstr]
  | f2 instr =>
    obtain ⟨b1, rfl⟩ := hi
    obtain ⟨hlen, henc⟩ := hrow
    simp [henc, decodeBytes, ← entryOf_eq _ _ _ (henc b1), he, hlen, buildInstr]
  | f3 instr =>
    obtain ⟨w, rfl⟩ := hi
    obtain ⟨hlen, henc⟩ := hrow
    simp [henc, decodeBytes, ← entryOf_eq _ _ _ (henc w), he, hlen, buildInstr]

theorem decodeBytes_cons_of_none {op : Byte} (he : opcodeEntry op = none) (tail : List Byte) :
    decodeBytes (op :: tail) = .illegalOpcode op := by
  simp [decodeBytes, he]

theorem decodeBytes_cons_of_some {op : Byte} {e : OpcodeEntry} (he : opcodeEntry op = some e) (tail : List Byte) :
    decodeBytes (op :: tail) =
      if tail.length < modeBytes e.mode then .truncated op
      else .instr (buildInstr e.format (tail.getD 0 0#8) (tail.getD 1 0#8)) (tail.drop (modeBytes e.mode)) := by
  simp [decodeBytes, he]

theorem decodeBytes_cons_eq_instr {op : Byte} {tail : List Byte} {i : Instr} {rest : List Byte}
    (h : decodeBytes (op :: tail) = .instr i rest) :
    ∃ e, opcodeEntry op = some e ∧ modeBytes e.mode ≤ tail.length ∧
      i = buildInstr e.format (tail.getD 0 0#8) (tail.getD 1 0#8) ∧ rest = tail.drop (modeBytes e.mode) := by
  cases he : opcodeEntry op with
  | none =>
    rw [decodeBytes_cons_of_none he] at h
    cases h
  | some e =>
    rw [decodeBytes_cons_of_some he] at h
    split at h
    · cases h
    · next hlen =>
      cases h
      exact ⟨e, rfl, Nat.le_of_not_lt hlen, rfl, rfl⟩

/-- What the decoder reads is an encoding: the row it looked up encodes what it makes (R100, R102). -/
theorem eq_encode_append_of_decodeBytes {bytes : List Byte} {i : Instr} {rest : List Byte}
    (h : decodeBytes bytes = .instr i rest) : bytes = encode i ++ rest := by
  cases bytes with
  | nil => cases h
  | cons op tail =>
    obtain ⟨⟨name, mode, cost, format⟩, he, hlen, rfl, rfl⟩ := decodeBytes_cons_eq_instr h
    have hrow := rowEncodes_of_opcodeEntry he
    cases format with
    | f1 instr =>
      obtain ⟨hmode, henc⟩ := hrow
      simp [buildInstr, henc, hmode]
    | f2 instr =>
      obtain ⟨hmode, henc⟩ := hrow
      match tail with
      | b1 :: tail => simp [buildInstr, henc, hmode]
      | [] => simp [hmode] at hlen
    | f3 instr =>
      obtain ⟨hmode, henc⟩ := hrow
      match tail with
      | b1 :: b2 :: tail => simp [buildInstr, henc, hmode]
      | [] | [_] => simp [hmode] at hlen

/-- Settles O1: by `decodeBytes_of_encode`. -/
theorem decodeReadsBackEncode : Obligations.DecodeReadsBackEncode := decodeBytes_of_encode

/-- Settles O2: by `eq_encode_append_of_decodeBytes`. -/
theorem encodeIsTheOnlyImage : Obligations.EncodeIsTheOnlyImage := fun _ _ _ => eq_encode_append_of_decodeBytes

theorem modeBytes_le (m : Mode) : modeBytes m ≤ 2 := by cases m <;> decide

theorem decodeOpcode_of_some {op : Byte} {e : OpcodeEntry} (he : opcodeEntry op = some e) (b1 b2 : Byte) :
    decodeOpcode op b1 b2 = some (buildInstr e.format b1 b2) := by
  simp [decodeOpcode, he]

theorem decodeOpcode_eq_none_iff (op b1 b2 : Byte) : decodeOpcode op b1 b2 = none ↔ opcodeEntry op = none := by
  cases he : opcodeEntry op with
  | none => simp [decodeOpcode, he]
  | some e => simp [decodeOpcode_of_some he]

/-- A step's opcode lookup is the decoder at the three bytes fetched: three bytes are never too few (R101). -/
theorem decodeOpcode_eq_some_iff_decodeBytes (op b1 b2 : Byte) (i : Instr) :
    decodeOpcode op b1 b2 = some i ↔ ∃ rest, decodeBytes [op, b1, b2] = .instr i rest := by
  cases he : opcodeEntry op with
  | none => simp [(decodeOpcode_eq_none_iff op b1 b2).mpr he, decodeBytes_cons_of_none he]
  | some e =>
    have enough : ¬ 2 < modeBytes e.mode := Nat.not_lt.mpr (modeBytes_le e.mode)
    simp [decodeOpcode_of_some he, decodeBytes_cons_of_some he, enough]

theorem decodeOpcode_eq_some_iff (op b1 b2 : Byte) (i : Instr) :
    decodeOpcode op b1 b2 = some i ↔ encode i <+: [op, b1, b2] := by
  rw [decodeOpcode_eq_some_iff_decodeBytes]
  exact exists_congr fun rest =>
    ⟨fun h => (eq_encode_append_of_decodeBytes h).symm, fun h => h ▸ decodeBytes_of_encode i rest⟩

/-! ### Fetching -/

@[simp] theorem fetchByte_zero (s : State) : fetchByte s 0 = memRead s s.pc := by simp [fetchByte]

/-- Settles O6: the fetch looks the opcode up as the decoder does. -/
theorem stepRunsDecodedInstruction : Obligations.StepRunsDecodedInstruction := by
  intro s i rest h
  refine step_of_fetch (s := s) ?_
  rw [fetchInstr, decodeOpcode_eq_some_iff_decodeBytes, fetchByte_zero]
  exact ⟨rest, h⟩

/-- Settles O7: the three bytes fetched begin with the encoding at PC, so the fetch gives its instruction. -/
theorem stepRunsInstructionInMemory : Obligations.StepRunsInstructionInMemory := by
  intro s i h
  refine step_of_fetch (s := s) ?_
  rw [fetchInstr, decodeOpcode_eq_some_iff, List.prefix_iff_getElem?]
  intro k hk
  have hk3 : k < 3 := by
    have := modeBytes_le (modeOf i)
    have := length_encode i
    omega
  have hbyte := h k hk
  rw [List.getD_eq_getElem _ _ hk] at hbyte
  rw [← hbyte]
  interval_cases k <;> rfl

/-! ### The opcodes of a kind -/

/-- The opcodes whose entry in the table satisfies `p`, in order. -/
def opcodesWith (p : Option OpcodeEntry → Bool) : List Byte :=
  ((List.range 256).map (BitVec.ofNat 8)).filter (fun op => p (opcodeEntry op))

@[simp] theorem mem_opcodesWith (p : Option OpcodeEntry → Bool) (op : Byte) :
    op ∈ opcodesWith p ↔ p (opcodeEntry op) := by
  have listed : op ∈ (List.range 256).map (BitVec.ofNat 8) :=
    List.mem_map.mpr ⟨op.toNat, List.mem_range.mpr op.isLt, BitVec.ofNat_toNat ..⟩
  simp [opcodesWith, listed]

theorem nodup_opcodesWith (p : Option OpcodeEntry → Bool) : (opcodesWith p).Nodup := by
  refine (List.nodup_range.map_on fun j hj k hk h => ?_).filter _
  simpa [Nat.mod_eq_of_lt, List.mem_range.mp hj, List.mem_range.mp hk] using congrArg BitVec.toNat h

/-- The list of R132 is the unassigned entries of the table, in order. -/
theorem illegalOpcodes_eq : illegalOpcodes = opcodesWith (·.isNone) := by decide

theorem opcodeEntry_eq_none_iff (op : Byte) : opcodeEntry op = none ↔ op ∈ illegalOpcodes := by
  simp [illegalOpcodes_eq]

/-! ### Illegal opcodes -/

theorem fetchInstr_eq_none_iff (s : State) : fetchInstr s = none ↔ memRead s s.pc ∈ illegalOpcodes := by
  rw [fetchInstr, decodeOpcode_eq_none_iff, opcodeEntry_eq_none_iff, fetchByte_zero]

theorem step_of_illegal {s : State} (h : memRead s s.pc ∈ illegalOpcodes) :
    step s = .fault (.illegalOpcode (memRead s s.pc)) := by
  simp [step, (fetchInstr_eq_none_iff s).mpr h]

theorem stepResult_of_illegal {s : State} (h : memRead s s.pc ∈ illegalOpcodes) :
    stepResult s = .illegalOpcode (memRead s s.pc) := by
  simp [stepResult, (fetchInstr_eq_none_iff s).mpr h]

theorem step_of_assigned {s : State} (h : memRead s s.pc ∉ illegalOpcodes) :
    ∃ t n, step s = .next t ∧ stepResult s = .executed n := by
  obtain ⟨i, hi⟩ := Option.ne_none_iff_exists'.mp (mt (fetchInstr_eq_none_iff s).mp h)
  obtain ⟨f, hf, -⟩ := follows_rule i
  exact ⟨f s, cycles i s, (step_of_fetch hi).trans (hf s), by simp [stepResult, hi]⟩

/-- Settles O3: the list is that of the table's unassigned entries. -/
theorem illegalOpcodesAreExactlyTheListed : Obligations.IllegalOpcodesAreExactlyTheListed := by
  refine ⟨rfl, ?_, fun op b1 b2 => ?_, fun s h => ⟨step_of_illegal h, ?_⟩⟩
  · rw [illegalOpcodes_eq]
    exact nodup_opcodesWith _
  · rw [decodeOpcode_eq_none_iff, opcodeEntry_eq_none_iff]
  · simp [afterTransaction, transact, step_of_illegal h]

/-- Settles O8: an illegal opcode faults, and every instruction completes (`follows_rule`). -/
theorem stepCompletesExactlyOnAssignedOpcodes : Obligations.StepCompletesExactlyOnAssignedOpcodes := by
  intro s
  by_cases h : memRead s s.pc ∈ illegalOpcodes
  · simp [step_of_illegal h, stepResult_of_illegal h, h]
  · obtain ⟨t, n, hstep, hresult⟩ := step_of_assigned h
    simp [hstep, hresult, h]

/-! ### Lengths and modes -/

theorem modeOf_congr {i j : Instr} (h : opcodeOf i = opcodeOf j) : modeOf i = modeOf j := by
  simp [modeOf, entryOf, h]

/-- Settles O4: the length is that of the mode, and the mode is read from the opcode. -/
theorem lengthIsOnePlusModeBytes : Obligations.LengthIsOnePlusModeBytes := by
  refine ⟨fun i => ⟨length_encode i, length_encode i⟩, fun i j h => ?_, fun m => ?_⟩
  · rw [length_encode, length_encode, modeOf_congr h]
  · cases m <;> rfl

/-- Settles O5: each word is an encoding with bytes after it. -/
theorem sampleWordsDecode : Obligations.SampleWordsDecode := fun b1 b2 =>
  ⟨decodeBytes_of_encode (.ldaImm b1) [b2], decodeBytes_of_encode (.staAbs 0x0200#16) [],
    decodeBytes_of_encode .tax [b1], decodeBytes_of_encode (.cpxImm 0x05#8) [], decodeBytes_of_encode (.staIndY b1) [],
    decodeBytes_of_encode .aslAcc [b1, b2], decodeBytes_of_encode (.jmpInd 0xFFFC#16) [],
    decodeBytes_of_encode (.bne b1) [], decodeBytes_of_encode .brk [b1], rfl⟩

theorem modeOf_eq_iff (i : Instr) (m : Mode) :
    modeOf i = m ↔ opcodeOf i ∈ opcodesWith (fun e => e.map (·.mode) = some m) := by
  obtain ⟨e, he, -⟩ := entryOf_makes i
  rw [modeOf_eq i e he, mem_opcodesWith, show opcodeEntry (opcodeOf i) = some e from he]
  simp

theorem opcodesWith_zeroPageY :
    opcodesWith (fun e => e.map (·.mode) = some .zeroPageY) = [0x96#8, 0xB6#8] := by decide

theorem opcodesWith_accumulator :
    opcodesWith (fun e => e.map (·.mode) = some .accumulator) = [0x0A#8, 0x2A#8, 0x4A#8, 0x6A#8] := by decide

theorem opcodesWith_indirect : opcodesWith (fun e => e.map (·.mode) = some .indirect) = [0x6C#8] := by decide

/-- Zero Page,Y is used by LDX and STX only (R115). -/
theorem modeOf_eq_zeroPageY_iff (i : Instr) : modeOf i = .zeroPageY ↔ opcodeOf i ∈ [0xB6#8, 0x96#8] := by
  rw [modeOf_eq_iff, opcodesWith_zeroPageY]
  simp [or_comm]

theorem modeOf_eq_accumulator_iff (i : Instr) :
    modeOf i = .accumulator ↔ opcodeOf i ∈ [0x0A#8, 0x4A#8, 0x2A#8, 0x6A#8] := by
  rw [modeOf_eq_iff, opcodesWith_accumulator]
  simp only [List.mem_cons, List.not_mem_nil, or_false]
  tauto

theorem modeOf_eq_indirect_iff (i : Instr) : modeOf i = .indirect ↔ opcodeOf i = 0x6C#8 := by
  rw [modeOf_eq_iff, opcodesWith_indirect, List.mem_singleton]

/-- Relative is the mode of the eight branches and of no other instruction (R122). -/
theorem modeOf_eq_relative_iff (i : Instr) :
    modeOf i = .relative ↔ mnemonicOf i ∈ ["BCC", "BCS", "BEQ", "BNE", "BMI", "BPL", "BVC", "BVS"] := by
  cases i <;> simp [modeOf, mnemonicOf]

theorem encode_eq_cons (i : Instr) : ∃ operands, encode i = opcodeOf i :: operands := by
  have h := length_encode i
  cases he : encode i with
  | nil =>
    rw [he, List.length_nil] at h
    omega
  | cons op operands => exact ⟨operands, by simp [opcodeOf, he]⟩

theorem encode_of_implied {i : Instr} (h : modeOf i = .implied) : encode i = [opcodeOf i] := by
  obtain ⟨operands, he⟩ := encode_eq_cons i
  have hlen : operands.length = 0 := by simpa [he, h, modeBytes] using length_encode i
  rw [he, List.eq_nil_of_length_eq_zero hlen]

end Sys2Proof.Encoding
end

section
/-! Proofs about the addressing modes of spec/30_encoding.md: what the resolver answers as numbers (R110-R122), the target
of JMP (R119), and the displacement an assembler encodes (R134). -/

namespace Sys2Proof.Addressing

open Sys2Proof.Machine Sys2Proof.Laws Sys2Proof.Rules Sys2Proof.Encoding

/-! ### What the resolver answers (R104-R122) -/

section
variable {mode : AddrMode} {s : State} {n : Nat}

/-- Without a final index the effective address is the base, and no page is crossed. -/
theorem resolveAddr_of_plain (hbase : baseAddress mode s = BitVec.ofNat 16 n)
    (hea : effectiveAddress mode s = baseAddress mode s) :
    effectiveAddress mode s = BitVec.ofNat 16 n ∧ resolveAddr mode s = .addr (BitVec.ofNat 16 n) false := by
  simp [resolveAddr, pageCrossed, hea, hbase]

/-- With a final index the effective address is the sum, and a page is crossed when the pages of base and sum differ. -/
theorem resolveAddr_of_indexed {index : Byte} (hbase : baseAddress mode s = BitVec.ofNat 16 n) (hn : n < 65536)
    (hea : effectiveAddress mode s = baseAddress mode s + zext16 index) :
    effectiveAddress mode s = BitVec.ofNat 16 (n + index.toNat) ∧
      resolveAddr mode s =
        .addr (BitVec.ofNat 16 (n + index.toNat)) (decide (n / 256 ≠ (n + index.toNat) % 65536 / 256)) := by
  have sum : effectiveAddress mode s = BitVec.ofNat 16 (n + index.toNat) := by rw [hea, hbase, ofNat_add_zext16]
  rw [resolveAddr, pageCrossed, page_ne_eq, sum, hbase, BitVec.toNat_ofNat, BitVec.toNat_ofNat, Nat.mod_eq_of_lt hn]
  exact ⟨rfl, rfl⟩

end

theorem zeroPageAddress_add (p q : Byte) :
    zeroPageAddress (p + q) = BitVec.ofNat 16 ((p.toNat + q.toNat) % 256) := by
  rw [zeroPageAddress_eq, BitVec.toNat_add]

/-- The word of (zp,X): both bytes at addresses modulo 256 (R120). -/
theorem readWordZP_add (s : State) (p q : Byte) :
    readWordZP s (p + q) =
      BitVec.ofNat 16 ((memRead s (BitVec.ofNat 16 ((p.toNat + q.toNat + 1) % 256))).toNat * 256 +
        (memRead s (BitVec.ofNat 16 ((p.toNat + q.toNat) % 256))).toNat) := by
  rw [readWordZP_eq, BitVec.toNat_add, Nat.mod_add_mod, Nat.mod_mod]

theorem wordNumber_lt (hi lo : Byte) : hi.toNat * 256 + lo.toNat < 65536 := toNat_wordOf hi lo ▸ (wordOf hi lo).isLt

/-- Settles O21: each mode's base address as a number, then `resolveAddr_of_plain` or `resolveAddr_of_indexed`. -/
theorem indexedAddressesWrap : Obligations.IndexedAddressesWrap := by
  refine ⟨fun s b1 b2 => ?_, modeOf_eq_zeroPageY_iff⟩
  exact ⟨resolveAddr_of_plain (zeroPageAddress_eq b1) rfl,
    resolveAddr_of_plain (zeroPageAddress_add b1 s.x) rfl,
    resolveAddr_of_plain (zeroPageAddress_add b1 s.y) rfl,
    resolveAddr_of_plain (wordOf_eq_ofNat b2 b1) rfl,
    resolveAddr_of_indexed (wordOf_eq_ofNat b2 b1) (wordNumber_lt b2 b1) rfl,
    resolveAddr_of_indexed (wordOf_eq_ofNat b2 b1) (wordNumber_lt b2 b1) rfl,
    resolveAddr_of_plain (readWordZP_add s b1 s.x) rfl,
    resolveAddr_of_indexed (readWordZP_eq s b1) (wordNumber_lt _ _) rfl⟩

/-- A branch target as an integer sum modulo 65536 (R122). -/
theorem relativeTarget_eq (disp : Byte) (s : State) :
    relativeTarget disp s = BitVec.ofInt 16 ((s.pc.toNat : Int) + 2 + disp.toInt) := by
  have h := toNat_relativeTarget disp s
  apply BitVec.eq_of_toNat_eq
  rw [BitVec.toNat_ofInt]
  omega

/-- Settles O22: the resolver's answers as numbers, and the users of a mode by the opcodes the table lists under it. -/
theorem specialModesAndTheirUsers : Obligations.SpecialModesAndTheirUsers := by
  refine ⟨fun s b1 b2 => ?_, fun s v mode => ⟨rfl, rfl, rfl, rfl⟩, fun i => ?_⟩
  · obtain ⟨-, hzpY⟩ := resolveAddr_of_plain (mode := .zpY b1) (zeroPageAddress_add b1 s.y) rfl
    refine ⟨rfl, rfl, rfl, fun _ => rfl, rfl, hzpY, ?_⟩
    rw [resolve, page_ne_eq, relativeTarget_eq, BitVec.toNat_add]
    rfl
  · refine ⟨encode_of_implied, fun h => ?_, modeOf_eq_accumulator_iff i, modeOf_eq_zeroPageY_iff i,
      modeOf_eq_relative_iff i⟩
    rw [length_encode, h]
    rfl

/-! ### JMP (R119, R381) -/

theorem indirectHighAddress_eq (lo hi : Byte) (s : State) :
    indirectHighAddress (wordOf hi lo) s =
      BitVec.ofNat 16 (if s.cfg.jmpIndPageWrap then hi.toNat * 256 + (lo.toNat + 1) % 256
        else (hi.toNat * 256 + lo.toNat + 1) % 65536) := by
  unfold indirectHighAddress
  split
  · rw [highByte_wordOf, lowByte_wordOf, wordOf_eq_ofNat, BitVec.toNat_add]
    rfl
  · apply BitVec.eq_of_toNat_eq
    rw [BitVec.toNat_add, toNat_wordOf, BitVec.toNat_ofNat, BitVec.toNat_ofNat]
    omega

/-- Below the end of a page both settings of JMP_IND_PAGE_WRAP read the pointer's next byte. -/
theorem indirectHighAddress_of_ne {lo : Byte} (hi : Byte) (hlo : lo ≠ 0xFF#8) (s : State) :
    indirectHighAddress (wordOf hi lo) s = wordOf hi lo + 1#16 := by
  have below : lo.toNat ≠ 255 := fun h => hlo (BitVec.eq_of_toNat_eq h)
  have lt := lo.isLt
  rw [indirectHighAddress_eq]
  apply BitVec.eq_of_toNat_eq
  rw [BitVec.toNat_add, toNat_wordOf, BitVec.toNat_ofNat, BitVec.toNat_ofNat]
  split <;> omega

theorem indirectTarget_withCfg {lo : Byte} (hi : Byte) (hlo : lo ≠ 0xFF#8) (s : State) (g : Config) :
    indirectTarget (wordOf hi lo) { s with cfg := g } = indirectTarget (wordOf hi lo) s := by
  rw [indirectTarget, indirectTarget, indirectHighAddress_of_ne hi hlo, indirectHighAddress_of_ne hi hlo]
  rfl

theorem exec_jmpInd {ptr target : Word} {s : State} (h : indirectTarget ptr s = target) :
    exec (.jmpInd ptr) s = .next { s with pc := target } := by
  subst h
  rfl

/-- Settles O46: `jmpInd` jumps to `indirectTarget`, which the resolver answers too. -/
theorem jumpsSetPcOnly : Obligations.JumpsSetPcOnly := by
  refine ⟨fun s lo hi => ?_, modeOf_eq_indirect_iff⟩
  intro ptr high ea
  have target : indirectTarget ptr s = ea := by rw [indirectTarget, indirectHighAddress_eq, wordOf_eq_ofNat]
  refine ⟨⟨?_, rfl⟩, ⟨?_, exec_jmpInd target⟩, congrArg (Resolution.addr · false) target, fun hlo g => ?_⟩
  · simp [encode, ptr]
  · simp [encode, ptr]
  · exact exec_jmpInd ((indirectTarget_withCfg hi hlo s g).trans target)

/-! ### Branch displacements (R122, R134) -/

/-- A displacement reaches the target exactly when, as a number, it is the distance from PC + 2 (R122). -/
theorem relativeTarget_eq_iff (s : State) (target : Word) (d : Byte) :
    relativeTarget d s = target ↔ (target - (s.pc + 2#16)).toInt = d.toInt := by
  rw [← BitVec.toInt_signExtend_of_le (show 8 ≤ 16 by decide), BitVec.toInt_inj, sub_eq_iff_eq_add', eq_comm]
  rfl

theorem branchDisplacement_eq_some_iff (s : State) (target : Word) (d : Byte) :
    branchDisplacement s.pc target = some d ↔ relativeTarget d s = target := by
  rw [relativeTarget_eq_iff, branchDisplacement]
  generalize (target - (s.pc + 2#16)).toInt = distance
  split
  · next near =>
    obtain ⟨low, high⟩ := near
    rw [Option.some.injEq, ← BitVec.toInt_inj,
      BitVec.toInt_ofInt_eq_self (by decide) low (Int.lt_add_one_of_le high)]
  · next far =>
    have low : -128 ≤ d.toInt := BitVec.le_toInt d
    have high : d.toInt < 128 := BitVec.toInt_lt
    simp only [reduceCtorEq, false_iff]
    omega

/-- Settles O60: no encoding means that no displacement is the encoding. -/
theorem assembledBranchReachesItsTarget : Obligations.AssembledBranchReachesItsTarget := by
  refine fun s target => ⟨branchDisplacement_eq_some_iff s target, ?_⟩
  rw [Option.eq_none_iff_forall_ne_some]
  exact forall_congr' fun d => not_congr (branchDisplacement_eq_some_iff s target d)

end Sys2Proof.Addressing
end

section
/-! Proofs about spec/40_load_store.md: the loads (R201-R203) and the stores (R204-R206), each rule once for all the modes
of its mnemonic. -/

namespace Sys2Proof.LoadStore

open Sys2Proof.Machine Sys2Proof.Claims Sys2Proof.Laws Sys2Proof.Scope

/-! ### Running an instruction by its meaning -/

theorem runs_of_means {i : Instr} {bytes : List Byte} {f : State → State} {s t : State} (hf : Means i f)
    (ht : f s = t) (hbytes : encode i = bytes := by simp [encode]) : Runs i bytes s t :=
  ⟨hbytes, (hf s).trans (congrArg _ ht)⟩

/-- An instruction that reads M runs as its effect on M, then PC is past it (R13, R105). -/
theorem runs_onSource {i : Instr} {bytes : List Byte} {effect : Byte → State → State} {src : Source} {s t : State}
    (hf : Means i (onSource effect src)) (ht : effect (operandValue src s) s = t)
    (hbytes : encode i = bytes := by simp [encode]) : Runs i bytes s (advance (sourceLength src) t) :=
  runs_of_means hf (congrArg (advance (sourceLength src)) ht) hbytes

/-! ### Loads (R201-R203) -/

/-- SetZN with its flags as the statements name them: the zero test and the sign bit (R10). -/
theorem setZN_eq (m : Byte) (s : State) : setZN m s = { s with z := decide (m = 0#8), n := m.msb } := by
  have sign : bitAt m 7 = m.msb := (BitVec.msb_eq_getLsbD_last m).symm
  rw [← sign]
  rfl

theorem loadA_eq (m : Byte) (s : State) : loadA m s = { s with a := m, z := decide (m = 0#8), n := m.msb } :=
  setZN_eq m { s with a := m }

theorem loadX_eq (m : Byte) (s : State) : loadX m s = { s with x := m, z := decide (m = 0#8), n := m.msb } :=
  setZN_eq m { s with x := m }

theorem loadY_eq (m : Byte) (s : State) : loadY m s = { s with y := m, z := decide (m = 0#8), n := m.msb } :=
  setZN_eq m { s with y := m }

/-- Settles O29: each register's load once for every source, then each form at the source it names. -/
theorem loadsCopyOperandAndSetZN : Obligations.LoadsCopyOperandAndSetZN := by
  intro s b1 lo hi zn la lx ly
  have lda {i : Instr} {bytes : List Byte} (src : Source) (hf : Means i (onSource loadA src))
      (hbytes : encode i = bytes := by simp [encode]) : Runs i bytes s (la src (sourceLength src)) :=
    runs_onSource hf (loadA_eq _ s) hbytes
  have ldx {i : Instr} {bytes : List Byte} (src : Source) (hf : Means i (onSource loadX src))
      (hbytes : encode i = bytes := by simp [encode]) : Runs i bytes s (lx src (sourceLength src)) :=
    runs_onSource hf (loadX_eq _ s) hbytes
  have ldy {i : Instr} {bytes : List Byte} (src : Source) (hf : Means i (onSource loadY src))
      (hbytes : encode i = bytes := by simp [encode]) : Runs i bytes s (ly src (sourceLength src)) :=
    runs_onSource hf (loadY_eq _ s) hbytes
  exact ⟨lda (.imm b1) fun _ => rfl,
    lda (.mem (.zp b1)) fun _ => rfl,
    lda (.mem (.zpX b1)) fun _ => rfl,
    lda (.mem (.abs (wordOf hi lo))) fun _ => rfl,
    lda (.mem (.absX (wordOf hi lo))) fun _ => rfl,
    lda (.mem (.absY (wordOf hi lo))) fun _ => rfl,
    lda (.mem (.indX b1)) fun _ => rfl,
    lda (.mem (.indY b1)) fun _ => rfl,
    ldx (.imm b1) fun _ => rfl,
    ldx (.mem (.zp b1)) fun _ => rfl,
    ldx (.mem (.zpY b1)) fun _ => rfl,
    ldx (.mem (.abs (wordOf hi lo))) fun _ => rfl,
    ldx (.mem (.absY (wordOf hi lo))) fun _ => rfl,
    ldy (.imm b1) fun _ => rfl,
    ldy (.mem (.zp b1)) fun _ => rfl,
    ldy (.mem (.zpX b1)) fun _ => rfl,
    ldy (.mem (.abs (wordOf hi lo))) fun _ => rfl,
    ldy (.mem (.absX (wordOf hi lo))) fun _ => rfl⟩

/-! ### Stores (R204-R206) -/

/-- Settles O30: the frame is that of one write (`memRead_memWrite`), and each form is a store of its register at the mode it
names. -/
theorem storesWriteOneByteAndNoFlag : Obligations.StoresWriteOneByteAndNoFlag := by
  intro s b1 lo hi store
  have runs {i : Instr} {bytes : List Byte} (value : State → Byte) (mode : AddrMode)
      (hf : Means i fun u => storeAt (value u) mode u) (hbytes : encode i = bytes := by simp [encode]) :
      Runs i bytes s (store (value s) mode (addrLength mode)) :=
    runs_of_means hf rfl hbytes
  refine ⟨fun v mode _ k => memRead_memWrite s (effectiveAddress mode s) k v, fun _ _ _ => rfl, ?_⟩
  exact ⟨runs State.a (.zp b1) fun _ => rfl,
    runs State.a (.zpX b1) fun _ => rfl,
    runs State.a (.abs (wordOf hi lo)) fun _ => rfl,
    runs State.a (.absX (wordOf hi lo)) fun _ => rfl,
    runs State.a (.absY (wordOf hi lo)) fun _ => rfl,
    runs State.a (.indX b1) fun _ => rfl,
    runs State.a (.indY b1) fun _ => rfl,
    runs State.x (.zp b1) fun _ => rfl,
    runs State.x (.zpY b1) fun _ => rfl,
    runs State.x (.abs (wordOf hi lo)) fun _ => rfl,
    runs State.y (.zp b1) fun _ => rfl,
    runs State.y (.zpX b1) fun _ => rfl,
    runs State.y (.abs (wordOf hi lo)) fun _ => rfl⟩

end Sys2Proof.LoadStore
end

section
/-! Proofs about spec/41_transfer_stack.md: the transfers (R241-R246), the pushes (R247, R248) and the pulls (R249, R250).
Each instruction is of format F1: its effect as a record, then PC one further. -/

namespace Sys2Proof.TransferStack

open Sys2Proof.Machine Sys2Proof.Claims Sys2Proof.Laws Sys2Proof.Scope Sys2Proof.LoadStore

/-- An implied instruction is its effect, then PC is one further (R13, R110). -/
theorem implied_eq {effect : State → State} {s t : State} (h : effect s = t) :
    implied effect s = { t with pc := t.pc + 1#16 } :=
  congrArg (advance 1#16) h

@[simp] theorem memRead_implied (effect : State → State) (s : State) (k : Word) :
    memRead (implied effect s) k = memRead (effect s) k := rfl

/-! ### Transfers (R241-R246) -/

/-- Settles O31: a transfer is a load of the source register, and TXS a plain copy. -/
theorem transfersCopyRegisters : Obligations.TransfersCopyRegisters := fun s =>
  ⟨runs_of_means (fun _ => rfl) (implied_eq (loadX_eq s.a s)),
    runs_of_means (fun _ => rfl) (implied_eq (loadY_eq s.a s)),
    runs_of_means (fun _ => rfl) (implied_eq (loadA_eq s.x s)),
    runs_of_means (fun _ => rfl) (implied_eq (loadA_eq s.y s)),
    runs_of_means (fun _ => rfl) (implied_eq (loadX_eq s.sp s)),
    runs_of_means (fun _ => rfl) rfl⟩

/-! ### Pushes (R247, R248) -/

/-- The bits of P put together are the number their weights add up to (R31): the same for all values of the seven flags. -/
theorem statusByte_eq_packStatus (s : State) : statusByte s = packStatus s := by
  unfold statusByte packStatus
  generalize s.n = n, s.v = v, s.b = b, s.d = d, s.i = i, s.z = z, s.c = c
  revert n v b d i z c
  decide

/-- Settles O32: a push writes one byte, at the slot SP points at (`memRead_pushByte`), read here as a number. -/
theorem pushesWriteAccumulatorAndStatus : Obligations.PushesWriteAccumulatorAndStatus := by
  intro s
  refine ⟨implied (pushByte s.a) s, implied pushFlags s, runs_of_means (fun _ => rfl) rfl,
    runs_of_means (fun _ => rfl) rfl, rfl, rfl, fun k => ?_, fun k => ?_⟩
  · simp only [memRead_implied, memRead_pushByte, eq_stackAddress_iff]
  · simp only [memRead_implied, memRead_pushFlags, eq_stackAddress_iff, statusByte_eq_packStatus]

/-! ### Pulls (R249, R250) -/

/-- The slot `k` above SP, which is taken modulo 256 inside the stack page (R71, R77). -/
theorem stackAddress_add_eq_ofNat (sp : Byte) (k : Nat) :
    stackAddress (sp + BitVec.ofNat 8 k) = BitVec.ofNat 16 (0x0100 + (sp.toNat + k) % 256) := by
  refine ((eq_stackAddress_iff _ _).mpr ?_).symm
  simp only [BitVec.toNat_ofNat, BitVec.toNat_add]
  omega

/-- What the k-th pull from `s` reads, at the address the model computes. -/
theorem memRead_stackAddress_eq_pulled (s : State) (k : Nat) :
    memRead s (stackAddress (s.sp + BitVec.ofNat 8 k)) = pulled s k := by
  rw [stackAddress_add_eq_ofNat, pulled]

/-- A pull of A loads the byte above SP with Z and N (R249). -/
theorem pullA_eq (s : State) :
    pullA s = { s with a := pulled s 1, z := decide (pulled s 1 = 0#8), n := (pulled s 1).msb, sp := s.sp + 1#8 } := by
  rw [← memRead_stackAddress_eq_pulled]
  exact loadA_eq _ { s with sp := s.sp + 1#8 }

/-- A pull of P sets the seven flags from the byte above SP (R250). -/
theorem popFlags_eq_pulled (s : State) : popFlags s = setStatus (pulled s 1) { s with sp := s.sp + 1#8 } := by
  rw [popFlags_eq, ← memRead_stackAddress_eq_pulled]

/-- Settles O33: PLA loads the pulled byte, PLP sets the seven flags from it. -/
theorem pullsLoadAccumulatorAndFlags : Obligations.PullsLoadAccumulatorAndFlags := fun s =>
  ⟨runs_of_means (fun _ => rfl) (implied_eq (pullA_eq s)),
    runs_of_means (fun _ => rfl) (implied_eq (popFlags_eq_pulled s))⟩

end Sys2Proof.TransferStack
end

section
/-! Proofs about spec/42_arithmetic.md: the binary sum and the two decimal algorithms as integer arithmetic (R281-R283),
then ADC, SBC, the compares, and the increments and decrements (R284-R295). -/

namespace Sys2Proof.Arithmetic

open Sys2Proof.Machine Sys2Proof.Claims Sys2Proof.Laws Sys2Proof.Scope Sys2Proof.LoadStore Sys2Proof.TransferStack

/-! ### Bytes as numbers -/

theorem msb_eq_decide_le (v : Byte) : v.msb = decide (128 ≤ v.toNat) := BitVec.msb_eq_decide v

theorem byte_toInt_eq (v : Byte) : v.toInt = if 128 ≤ v.toNat then (v.toNat : Int) - 256 else (v.toNat : Int) := by
  rw [BitVec.toInt_eq_msb_cond, msb_eq_decide_le]
  simp only [decide_eq_true_eq]
  rfl

theorem toNat_lowNibble (v : Byte) : (v &&& 0x0F#8).toNat = v.toNat % 16 :=
  Nat.and_two_pow_sub_one_eq_mod v.toNat 4

/-- The high digit with its weight: one fact for each of the 256 bytes. -/
theorem toNat_highNibble (v : Byte) : (v &&& 0xF0#8).toNat = v.toNat / 16 * 16 := by
  revert v
  decide

/-! ### The binary sum (R281) -/

theorem toNat_addBinary_result (a m : Byte) (c : Bool) :
    (addBinary a m c).result.toNat = (a.toNat + m.toNat + c.toNat) % 256 :=
  BitVec.toNat_ofNat _ 8

theorem addBinary_carry_iff (a m : Byte) (c : Bool) :
    (addBinary a m c).carry = true ↔ 256 ≤ a.toNat + m.toNat + c.toNat :=
  decide_eq_true_iff

/-- V by the signs: both operands' signs differ from the result's. -/
theorem addBinary_overflow_iff_signs (a m : Byte) (c : Bool) :
    (addBinary a m c).overflow = true ↔
      a.msb ≠ (addBinary a m c).result.msb ∧ m.msb ≠ (addBinary a m c).result.msb := by
  have sign : (addBinary a m c).overflow =
      ((a.msb ^^ (addBinary a m c).result.msb) && (m.msb ^^ (addBinary a m c).result.msb)) := by
    simp only [BitVec.msb_eq_getLsbD_last]
    simp [addBinary, bitAt]
  simp [sign]

/-- V by the range: the signed sum is no signed byte. -/
theorem addBinary_overflow_iff_range (a m : Byte) (c : Bool) :
    (addBinary a m c).overflow = true ↔
      a.toInt + m.toInt + (c.toNat : Int) < -128 ∨ 127 < a.toInt + m.toInt + (c.toNat : Int) := by
  have ha := a.isLt
  have hm := m.isLt
  have hc := c.toNat_le
  rw [addBinary_overflow_iff_signs]
  simp only [msb_eq_decide_le, toNat_addBinary_result, byte_toInt_eq, ne_eq, decide_eq_decide]
  omega

/-- Settles O35: the sum and its carry by definition, V by its two readings. -/
theorem addBinaryIsExactAddition : Obligations.AddBinaryIsExactAddition := fun a m c =>
  ⟨toNat_addBinary_result a m c, addBinary_carry_iff a m c, addBinary_overflow_iff_range a m c,
    addBinary_overflow_iff_signs a m c⟩

/-! ### BCD (R282, R283) -/

theorem toNat_bcd (p : Nat) (h : p < 100) : (bcd p).toNat = 16 * (p / 10) + p % 10 :=
  Nat.mod_eq_of_lt (by omega)

theorem bcd_lowDigit (p : Nat) (h : p < 100) : (bcd p).toNat % 16 = p % 10 := by
  rw [toNat_bcd p h]
  omega

theorem bcd_highDigit (p : Nat) (h : p < 100) : (bcd p).toNat / 16 = p / 10 := by
  rw [toNat_bcd p h]
  omega

/-! ### The decimal sum (R282) -/

theorem decimalLowSum_eq (a m : Byte) (c : Bool) :
    decimalLowSum a m c =
      if 10 ≤ a.toNat % 16 + m.toNat % 16 + c.toNat then (a.toNat % 16 + m.toNat % 16 + c.toNat + 6) % 16 + 16
      else a.toNat % 16 + m.toNat % 16 + c.toNat := by
  rw [decimalLowSum, toNat_lowNibble, toNat_lowNibble]

/-- `s1` of R282: both high digits with their weight, and the adjusted low sum. -/
def decimalSum (a m : Byte) (c : Bool) : Nat := a.toNat / 16 * 16 + m.toNat / 16 * 16 + decimalLowSum a m c

/-- `s2` of R282: the adjust of the high digit. -/
def adjustSum (s1 : Nat) : Nat := if 160 ≤ s1 then s1 + 96 else s1

/-- The high digit of a byte with its weight, read as signed. -/
theorem toInt_highNibble (v : Byte) :
    (v &&& 0xF0#8).toInt =
      if 128 ≤ v.toNat then ((v.toNat / 16 * 16 : Nat) : Int) - 256 else ((v.toNat / 16 * 16 : Nat) : Int) := by
  have same : 128 ≤ v.toNat / 16 * 16 ↔ 128 ≤ v.toNat := by omega
  rw [byte_toInt_eq, toNat_highNibble]
  simp only [same]

theorem bitAt_seven_ofNat (n : Nat) : bitAt (BitVec.ofNat 8 n) 7 = decide (128 ≤ n % 256) :=
  msb_eq_decide_le (BitVec.ofNat 8 n)

/-- The five results: A and C from `s2`, N from `s1`, V from the signed high digits, Z from the binary sum. -/
theorem adcDecimal_eq (a m : Byte) (c : Bool) :
    adcDecimal a m c =
      { result := BitVec.ofNat 8 (adjustSum (decimalSum a m c))
        carry := decide (256 ≤ adjustSum (decimalSum a m c))
        negative := decide (128 ≤ decimalSum a m c % 256)
        overflow := decide
          ((a &&& 0xF0#8).toInt + (m &&& 0xF0#8).toInt + (decimalLowSum a m c : Int) < -128 ∨
            127 < (a &&& 0xF0#8).toInt + (m &&& 0xF0#8).toInt + (decimalLowSum a m c : Int))
        zero := decide ((a.toNat + m.toNat + c.toNat) % 256 = 0) } := by
  simp only [adcDecimal, toNat_highNibble, bitAt_seven_ofNat, Bool.decide_or]
  rfl

/-- On valid BCD `s1` holds the units of the sum as its low digit, and the tens, which may be 10 or more, above it. -/
theorem decimalSum_bcd (p q : Nat) (c : Bool) (hp : p < 100) (hq : q < 100) :
    decimalSum (bcd p) (bcd q) c = 16 * ((p + q + c.toNat) / 10) + (p + q + c.toNat) % 10 := by
  have hc := c.toNat_le
  rw [decimalSum, decimalLowSum_eq, bcd_lowDigit p hp, bcd_lowDigit q hq, bcd_highDigit p hp, bcd_highDigit q hq]
  split <;> omega

/-- The adjust of the high digit takes 100 out of the tens as a carry of 256. -/
theorem adjustSum_digits (n : Nat) (h : n < 200) :
    adjustSum (16 * (n / 10) + n % 10) = 256 * (n / 100) + (16 * (n % 100 / 10) + n % 100 % 10) := by
  unfold adjustSum
  split <;> omega

/-- Settles O36: the algorithm by `adcDecimal_eq`, the BCD sum by its digits. -/
theorem adcDecimalFollowsNmosAlgorithm : Obligations.AdcDecimalFollowsNmosAlgorithm := by
  refine ⟨fun a m c => ?_, fun p q c hp hq => ?_⟩
  · rw [adcDecimal_eq, toInt_highNibble, toInt_highNibble, decimalSum, decimalLowSum_eq]
    rfl
  · have hc := c.toNat_le
    have digits := adjustSum_digits (p + q + c.toNat) (by omega)
    rw [adcDecimal_eq, decimalSum_bcd p q c hp hq, digits]
    refine ⟨BitVec.eq_of_toNat_eq ?_, ?_⟩
    · rw [BitVec.toNat_ofNat, toNat_bcd _ (Nat.mod_lt _ (by decide))]
      omega
    · rw [decide_eq_true_iff]
      omega

/-! ### The decimal difference (R283) -/

theorem decimalLowDifference_eq (a m : Byte) (c : Bool) :
    decimalLowDifference a m c =
      if ((a.toNat % 16 : Nat) : Int) - ((m.toNat % 16 : Nat) : Int) + (c.toNat : Int) - 1 < 0 then
        (((a.toNat % 16 : Nat) : Int) - ((m.toNat % 16 : Nat) : Int) + (c.toNat : Int) - 1 - 6) % 16 - 16
      else ((a.toNat % 16 : Nat) : Int) - ((m.toNat % 16 : Nat) : Int) + (c.toNat : Int) - 1 := by
  rw [decimalLowDifference, toNat_lowNibble, toNat_lowNibble]

/-- `s` of R283: the difference of the high digits with their weight, and the adjusted low difference. -/
def decimalDifference (a m : Byte) (c : Bool) : Int :=
  ((a.toNat / 16 * 16 : Nat) : Int) - ((m.toNat / 16 * 16 : Nat) : Int) + decimalLowDifference a m c

/-- The adjust of the high digit of R283. -/
def adjustDifference (d : Int) : Int := if d < 0 then d - 96 else d

theorem sbcDecimal_eq (a m : Byte) (c : Bool) :
    sbcDecimal a m c = BitVec.ofInt 8 (adjustDifference (decimalDifference a m c)) := by
  rw [sbcDecimal, toNat_highNibble, toNat_highNibble]
  rfl

theorem toNat_sbcDecimal (a m : Byte) (c : Bool) :
    ((sbcDecimal a m c).toNat : Int) = adjustDifference (decimalDifference a m c) % 256 := by
  rw [sbcDecimal_eq, BitVec.toNat_ofInt]
  exact Int.toNat_of_nonneg (Int.emod_nonneg _ (by decide))

/-- On valid BCD `s` holds the units of the difference as its low digit, and the tens, which may be negative, above it. -/
theorem decimalDifference_bcd (p q : Nat) (c : Bool) (hp : p < 100) (hq : q < 100) :
    decimalDifference (bcd p) (bcd q) c =
      16 * (((p : Int) - q + c.toNat - 1) / 10) + ((p : Int) - q + c.toNat - 1) % 10 := by
  have hc := c.toNat_le
  rw [decimalDifference, decimalLowDifference_eq, bcd_lowDigit p hp, bcd_lowDigit q hq, bcd_highDigit p hp,
    bcd_highDigit q hq]
  split <;> omega

/-- The adjust of the high digit borrows 100 for negative tens, modulo 256. -/
theorem adjustDifference_digits (n : Int) (low : -100 ≤ n) (high : n < 100) :
    adjustDifference (16 * (n / 10) + n % 10) % 256 = 16 * (n % 100 / 10) + n % 100 % 10 := by
  have units : n % 100 % 10 = n % 10 := by omega
  unfold adjustDifference
  split
  · have tens : n % 100 / 10 = n / 10 + 10 := by omega
    omega
  · have tens : n % 100 / 10 = n / 10 := by omega
    omega

/-- Settles O38: the algorithm by `toNat_sbcDecimal`, the BCD difference by its digits. -/
theorem sbcDecimalFollowsNmosAlgorithm : Obligations.SbcDecimalFollowsNmosAlgorithm := by
  refine ⟨fun a m c => ?_, fun p q c hp hq => ?_⟩
  · rw [toNat_sbcDecimal, decimalDifference, decimalLowDifference_eq]
    rfl
  · have hc := c.toNat_le
    have digits := adjustDifference_digits ((p : Int) - q + c.toNat - 1) (by omega) (by omega)
    have number := toNat_sbcDecimal (bcd p) (bcd q) c
    rw [decimalDifference_bcd p q c hp hq, digits] at number
    apply BitVec.eq_of_toNat_eq
    rw [toNat_bcd _ (Nat.mod_lt _ (by decide))]
    omega

/-! ### ADC (R284) and SBC (R285) -/

theorem decimalActive_iff (s : State) : decimalActive s = true ↔ s.d = true ∧ s.cfg.decimalMode = .nmos := by
  simp [decimalActive]

/-- ADC where the decimal rule does not apply: the exact sum narrowed, and its flags as numbers. -/
theorem addToA_binary_eq (m : Byte) (s : State) (h : ¬decimalActive s = true) :
    addToA m s =
      { s with
        a := BitVec.ofNat 8 (s.a.toNat + m.toNat + s.c.toNat)
        c := decide (256 ≤ s.a.toNat + m.toNat + s.c.toNat)
        v := decide (s.a.toInt + m.toInt + (s.c.toNat : Int) < -128 ∨ 127 < s.a.toInt + m.toInt + (s.c.toNat : Int))
        z := decide ((s.a.toNat + m.toNat + s.c.toNat) % 256 = 0)
        n := decide (128 ≤ (s.a.toNat + m.toNat + s.c.toNat) % 256) } := by
  have overflow := Bool.eq_iff_iff.mpr
    ((addBinary_overflow_iff_range s.a m s.c).trans decide_eq_true_iff.symm)
  have zero : (addBinary s.a m s.c).result = 0#8 ↔ (s.a.toNat + m.toNat + s.c.toNat) % 256 = 0 := by
    rw [← toNat_addBinary_result, ← BitVec.toNat_inj]
    rfl
  rw [addToA, if_neg h, loadA_eq, overflow, msb_eq_decide_le, toNat_addBinary_result, decide_eq_decide.mpr zero]
  rfl

/-- ADC where the decimal rule applies: the five results of AdcDecimal (R282). -/
theorem addToA_decimal_eq (m : Byte) (s : State) (h : decimalActive s = true) :
    addToA m s =
      { s with
        a := (adcDecimal s.a m s.c).result
        c := (adcDecimal s.a m s.c).carry
        n := (adcDecimal s.a m s.c).negative
        v := (adcDecimal s.a m s.c).overflow
        z := (adcDecimal s.a m s.c).zero } := by
  rw [addToA, if_pos h]

/-- Settles O34: the two cases of `decimalActive` once for every source, then each form at the source it names. -/
theorem adcAddsWithCarry : Obligations.AdcAddsWithCarry := by
  intro s b1 lo hi binary decimal add
  have sum (src : Source) : onSource addToA src s = add src (sourceLength src) := by
    simp only [onSource, add, ← decimalActive_iff]
    split
    · next h => rw [addToA_decimal_eq _ s h]; rfl
    · next h => rw [addToA_binary_eq _ s h]; rfl
  have adc {i : Instr} {bytes : List Byte} (src : Source) (hf : Means i (onSource addToA src))
      (hbytes : encode i = bytes := by simp [encode]) : Runs i bytes s (add src (sourceLength src)) :=
    runs_of_means hf (sum src) hbytes
  exact ⟨adc (.imm b1) fun _ => rfl,
    adc (.mem (.zp b1)) fun _ => rfl,
    adc (.mem (.zpX b1)) fun _ => rfl,
    adc (.mem (.abs (wordOf hi lo))) fun _ => rfl,
    adc (.mem (.absX (wordOf hi lo))) fun _ => rfl,
    adc (.mem (.absY (wordOf hi lo))) fun _ => rfl,
    adc (.mem (.indX b1)) fun _ => rfl,
    adc (.mem (.indY b1)) fun _ => rfl⟩

/-- Adding the complement with carry is subtracting with borrow. -/
theorem addBinary_not_result (a m : Byte) (c : Bool) :
    (addBinary a (~~~m) c).result = a - m - BitVec.ofNat 8 (1 - c.toNat) := by
  have hm := m.isLt
  have hc := c.toNat_le
  apply BitVec.eq_of_toNat_eq
  rw [toNat_addBinary_result]
  simp only [BitVec.toNat_not, BitVec.toNat_sub, BitVec.toNat_ofNat]
  omega

/-- The carry of the complement's sum: no borrow was needed. -/
theorem addBinary_not_carry (a m : Byte) (c : Bool) :
    (addBinary a (~~~m) c).carry = decide (m.toNat + (1 - c.toNat) ≤ a.toNat) := by
  have hm := m.isLt
  have hc := c.toNat_le
  rw [Bool.eq_iff_iff, addBinary_carry_iff, decide_eq_true_iff, BitVec.toNat_not]
  omega

/-- The overflow of the complement's sum: the signed difference is no signed byte. -/
theorem addBinary_not_overflow (a m : Byte) (c : Bool) :
    (addBinary a (~~~m) c).overflow =
      decide (a.toInt - m.toInt - ((1 - c.toNat : Nat) : Int) < -128 ∨
        127 < a.toInt - m.toInt - ((1 - c.toNat : Nat) : Int)) := by
  have hm := m.isLt
  have hc := c.toNat_le
  have complement : (~~~m).toInt = -m.toInt - 1 := by
    rw [byte_toInt_eq, byte_toInt_eq, BitVec.toNat_not]
    omega
  rw [Bool.eq_iff_iff, addBinary_overflow_iff_range, decide_eq_true_iff, complement]
  omega

/-- SBC's effect: the flags of the binary difference, and A by the mode. -/
theorem subtractFromA_eq (m : Byte) (s : State) :
    subtractFromA m s =
      { s with
        a := if s.d = true ∧ s.cfg.decimalMode = .nmos then sbcDecimal s.a m s.c
          else s.a - m - BitVec.ofNat 8 (1 - s.c.toNat)
        c := decide (m.toNat + (1 - s.c.toNat) ≤ s.a.toNat)
        v := decide (s.a.toInt - m.toInt - ((1 - s.c.toNat : Nat) : Int) < -128 ∨
          127 < s.a.toInt - m.toInt - ((1 - s.c.toNat : Nat) : Int))
        z := decide (s.a - m - BitVec.ofNat 8 (1 - s.c.toNat) = 0#8)
        n := (s.a - m - BitVec.ofNat 8 (1 - s.c.toNat)).msb } := by
  simp only [subtractFromA, setZN_eq, addBinary_not_result, addBinary_not_carry, addBinary_not_overflow,
    decimalActive_iff]

/-- Settles O37: SBC's effect once for every source, then each form at the source it names. -/
theorem sbcSubtractsWithBorrow : Obligations.SbcSubtractsWithBorrow := by
  intro s b1 lo hi subtract
  have sbc {i : Instr} {bytes : List Byte} (src : Source) (hf : Means i (onSource subtractFromA src))
      (hbytes : encode i = bytes := by simp [encode]) : Runs i bytes s (subtract src (sourceLength src)) :=
    runs_onSource hf (subtractFromA_eq _ s) hbytes
  exact ⟨sbc (.imm b1) fun _ => rfl,
    sbc (.mem (.zp b1)) fun _ => rfl,
    sbc (.mem (.zpX b1)) fun _ => rfl,
    sbc (.mem (.abs (wordOf hi lo))) fun _ => rfl,
    sbc (.mem (.absX (wordOf hi lo))) fun _ => rfl,
    sbc (.mem (.absY (wordOf hi lo))) fun _ => rfl,
    sbc (.mem (.indX b1)) fun _ => rfl,
    sbc (.mem (.indY b1)) fun _ => rfl⟩

/-! ### Compares (R286-R289) -/

/-- Compare's C, Z and N as facts about the two numbers. -/
theorem compareWith_eq (r m : Byte) (s : State) :
    compareWith r m s =
      { s with
        c := decide (m.toNat ≤ r.toNat)
        z := decide (r = m)
        n := decide (128 ≤ (r.toNat + (256 - m.toNat)) % 256) } := by
  have zero : r - m = 0#8 ↔ r = m := sub_eq_zero
  rw [compareWith, setZN_eq, msb_eq_decide_le, BitVec.toNat_sub, Nat.add_comm, decide_eq_decide.mpr zero]

/-- Settles O39: `compareWith` once for every register and source, then each form at the two it names. -/
theorem comparesSetCarryZeroNegative : Obligations.ComparesSetCarryZeroNegative := by
  intro s b1 lo hi cmp
  have compares {i : Instr} {bytes : List Byte} (register : State → Byte) (src : Source)
      (hf : Means i fun u => onSource (compareWith (register u)) src u)
      (hbytes : encode i = bytes := by simp [encode]) :
      Runs i bytes s (cmp (register s) src (sourceLength src)) :=
    runs_of_means hf (congrArg (advance (sourceLength src)) (compareWith_eq _ _ s)) hbytes
  exact ⟨compares State.a (.imm b1) fun _ => rfl,
    compares State.a (.mem (.zp b1)) fun _ => rfl,
    compares State.a (.mem (.zpX b1)) fun _ => rfl,
    compares State.a (.mem (.abs (wordOf hi lo))) fun _ => rfl,
    compares State.a (.mem (.absX (wordOf hi lo))) fun _ => rfl,
    compares State.a (.mem (.absY (wordOf hi lo))) fun _ => rfl,
    compares State.a (.mem (.indX b1)) fun _ => rfl,
    compares State.a (.mem (.indY b1)) fun _ => rfl,
    compares State.x (.imm b1) fun _ => rfl,
    compares State.x (.mem (.zp b1)) fun _ => rfl,
    compares State.x (.mem (.abs (wordOf hi lo))) fun _ => rfl,
    compares State.y (.imm b1) fun _ => rfl,
    compares State.y (.mem (.zp b1)) fun _ => rfl,
    compares State.y (.mem (.abs (wordOf hi lo))) fun _ => rfl⟩

/-! ### Increments and decrements (R290-R295) -/

theorem add_one_eq_ofNat (v : Byte) : v + 1#8 = BitVec.ofNat 8 (v.toNat + 1) := rfl

theorem sub_one_eq_ofNat (v : Byte) : v - 1#8 = BitVec.ofNat 8 (v.toNat + 255) :=
  congrArg (BitVec.ofNat 8) (Nat.add_comm 255 v.toNat)

/-- INC and DEC: one byte of memory, Z and N of it, and PC past the instruction. -/
theorem modifyMemory_eq {op : Byte → Byte} {r : Byte} (mode : AddrMode) (s : State)
    (hr : op (memRead s (effectiveAddress mode s)) = r) :
    modifyMemory op mode s =
      { memWrite s (effectiveAddress mode s) r with
        z := decide (r = 0#8), n := r.msb, pc := s.pc + addrLength mode } := by
  subst hr
  exact congrArg (advance (addrLength mode)) (setZN_eq _ _)

/-- Settles O40: the frame is that of one write (`memRead_memWrite`), and each form is a modify of the byte at the mode it
names. -/
theorem incDecModifyOneByte : Obligations.IncDecModifyOneByte := by
  intro s b1 lo hi rmw at'
  have inc {i : Instr} {bytes : List Byte} (mode : AddrMode) (hf : Means i (modifyMemory (· + 1#8) mode))
      (hbytes : encode i = bytes := by simp [encode]) :
      Runs i bytes s (rmw (BitVec.ofNat 8 (at' mode + 1)) s.c mode (addrLength mode)) :=
    runs_of_means hf (modifyMemory_eq mode s (add_one_eq_ofNat _)) hbytes
  have dec {i : Instr} {bytes : List Byte} (mode : AddrMode) (hf : Means i (modifyMemory (· - 1#8) mode))
      (hbytes : encode i = bytes := by simp [encode]) :
      Runs i bytes s (rmw (BitVec.ofNat 8 (at' mode + 255)) s.c mode (addrLength mode)) :=
    runs_of_means hf (modifyMemory_eq mode s (sub_one_eq_ofNat _)) hbytes
  refine ⟨fun r _ mode _ k => memRead_memWrite s (effectiveAddress mode s) k r, ?_⟩
  exact ⟨inc (.zp b1) fun _ => rfl,
    inc (.zpX b1) fun _ => rfl,
    inc (.abs (wordOf hi lo)) fun _ => rfl,
    inc (.absX (wordOf hi lo)) fun _ => rfl,
    dec (.zp b1) fun _ => rfl,
    dec (.zpX b1) fun _ => rfl,
    dec (.abs (wordOf hi lo)) fun _ => rfl,
    dec (.absX (wordOf hi lo)) fun _ => rfl⟩

/-- Settles O41: each is a load of the register's own value plus or minus one. -/
theorem indexIncrementsAndDecrements : Obligations.IndexIncrementsAndDecrements := by
  intro s inc dec zn
  have up (r : Byte) : r + 1#8 = inc r := add_one_eq_ofNat r
  have down (r : Byte) : r - 1#8 = dec r := sub_one_eq_ofNat r
  rw [← up, ← up, ← down, ← down]
  exact ⟨runs_of_means (fun _ => rfl) (implied_eq (loadX_eq _ s)),
    runs_of_means (fun _ => rfl) (implied_eq (loadY_eq _ s)),
    runs_of_means (fun _ => rfl) (implied_eq (loadX_eq _ s)),
    runs_of_means (fun _ => rfl) (implied_eq (loadY_eq _ s))⟩

end Sys2Proof.Arithmetic
end

section
/-! Proofs about spec/43_logic_shift.md: the logic instructions (R331-R333), BIT (R334), the shifts (R335, R336) and the
rotates (R337, R338), each rule once for all the modes of its mnemonic. -/

namespace Sys2Proof.LogicShift

open Sys2Proof.Machine Sys2Proof.Claims Sys2Proof.Laws Sys2Proof.Scope Sys2Proof.LoadStore Sys2Proof.Arithmetic

/-! ### The four operations as arithmetic (R335-R338) -/

theorem bitAt_seven (m : Byte) : bitAt m 7 = decide (128 ≤ m.toNat) := msb_eq_decide_le m

theorem bitAt_zero (m : Byte) : bitAt m 0 = decide (m.toNat % 2 = 1) := Nat.testBit_zero m.toNat

theorem toNat_flagByte (c : Bool) : (flagByte c).toNat = c.toNat := by cases c <;> rfl

theorem toNat_shiftLeft_one (m : Byte) : (m <<< 1).toNat = 2 * m.toNat % 256 := by
  rw [BitVec.toNat_shiftLeft, Nat.shiftLeft_eq, Nat.mul_comm]

theorem toNat_shiftRight_one (m : Byte) : (m >>> 1).toNat = m.toNat / 2 := BitVec.toNat_ushiftRight m 1

theorem shiftLeft_eq (m : Byte) (c : Bool) :
    shiftLeft m c = (BitVec.ofNat 8 (2 * m.toNat), decide (128 ≤ m.toNat)) :=
  Prod.ext (BitVec.eq_of_toNat_eq (toNat_shiftLeft_one m)) (bitAt_seven m)

theorem shiftRight_eq (m : Byte) (c : Bool) :
    shiftRight m c = (BitVec.ofNat 8 (m.toNat / 2), decide (m.toNat % 2 = 1)) := by
  refine Prod.ext (BitVec.eq_of_toNat_eq ?_) (bitAt_zero m)
  have hm := m.isLt
  rw [shiftRight, toNat_shiftRight_one, BitVec.toNat_ofNat]
  omega

/-- The carry enters bit 0, which the shift has cleared, so the disjunction is a sum. -/
theorem toNat_shiftLeft_or_flag (m : Byte) (c : Bool) :
    ((m <<< 1) ||| flagByte c).toNat = (2 * m.toNat + c.toNat) % 256 := by
  have hc : c.toNat < 2 ^ 1 := c.toNat_lt
  have even : 2 * m.toNat % 256 = 2 ^ 1 * (m.toNat % 128) := by omega
  rw [BitVec.toNat_or, toNat_shiftLeft_one, toNat_flagByte, even, ← Nat.two_pow_add_eq_or_of_lt hc]
  omega

/-- The carry enters bit 7, which the shift has cleared, so the disjunction is a sum. -/
theorem toNat_flag_or_shiftRight (m : Byte) (c : Bool) :
    ((flagByte c <<< 7) ||| (m >>> 1)).toNat = 128 * c.toNat + m.toNat / 2 := by
  have hm : m.toNat / 2 < 2 ^ 7 := Nat.div_lt_of_lt_mul m.isLt
  have weight : (flagByte c <<< 7).toNat = 2 ^ 7 * c.toNat := by cases c <;> rfl
  rw [BitVec.toNat_or, weight, toNat_shiftRight_one, ← Nat.two_pow_add_eq_or_of_lt hm]

theorem rotateLeft_eq (m : Byte) (c : Bool) :
    rotateLeft m c = (BitVec.ofNat 8 (2 * m.toNat + c.toNat), decide (128 ≤ m.toNat)) :=
  Prod.ext (BitVec.eq_of_toNat_eq (toNat_shiftLeft_or_flag m c)) (bitAt_seven m)

theorem rotateRight_eq (m : Byte) (c : Bool) :
    rotateRight m c = (BitVec.ofNat 8 (128 * c.toNat + m.toNat / 2), decide (m.toNat % 2 = 1)) := by
  refine Prod.ext (BitVec.eq_of_toNat_eq ?_) (bitAt_zero m)
  have hm := m.isLt
  have hc := c.toNat_le
  rw [rotateRight, toNat_flag_or_shiftRight, BitVec.toNat_ofNat]
  omega

/-! ### Shifts and rotates (R335-R338) -/

/-- A read-modify-write whose operation answers `r` and `carry`: both stored, Z and N of `r`, and PC past the instruction
(R105, R330). -/
theorem modifyPlace_eq {op : Byte → Bool → Byte × Bool} {place : Place} {s : State} {r : Byte} {carry : Bool}
    (hop : op (placeValue place s) s.c = (r, carry)) :
    modifyPlace op place s =
      { placeWrite place r s with
        c := carry, z := decide (r = 0#8), n := r.msb, pc := s.pc + placeLength place } := by
  rw [modifyPlace, hop, setZN_eq]
  cases place with
  | acc => rfl
  | mem mode => cases mode <;> rfl

theorem runs_modifyPlace {i : Instr} {bytes : List Byte} {op : Byte → Bool → Byte × Bool} {s : State} {r : Byte}
    {carry : Bool} (place : Place) (hop : op (placeValue place s) s.c = (r, carry)) (hf : Means i (modifyPlace op place))
    (hbytes : encode i = bytes := by simp [encode]) :
    Runs i bytes s
      { placeWrite place r s with
        c := carry, z := decide (r = 0#8), n := r.msb, pc := s.pc + placeLength place } :=
  runs_of_means hf (modifyPlace_eq hop) hbytes

/-- Settles O44: the frame is that of one write (`memRead_memWrite`), and each form is its shift at the place it names. -/
theorem shiftsMoveOneBit : Obligations.ShiftsMoveOneBit := by
  intro s b1 lo hi acc rmw at'
  refine ⟨fun r _ mode _ k => memRead_memWrite s (effectiveAddress mode s) k r, ?_⟩
  exact ⟨runs_modifyPlace .acc (shiftLeft_eq _ _) fun _ => rfl,
    runs_modifyPlace (.mem (.zp b1)) (shiftLeft_eq _ _) fun _ => rfl,
    runs_modifyPlace (.mem (.zpX b1)) (shiftLeft_eq _ _) fun _ => rfl,
    runs_modifyPlace (.mem (.abs (wordOf hi lo))) (shiftLeft_eq _ _) fun _ => rfl,
    runs_modifyPlace (.mem (.absX (wordOf hi lo))) (shiftLeft_eq _ _) fun _ => rfl,
    runs_modifyPlace .acc (shiftRight_eq _ _) fun _ => rfl,
    runs_modifyPlace (.mem (.zp b1)) (shiftRight_eq _ _) fun _ => rfl,
    runs_modifyPlace (.mem (.zpX b1)) (shiftRight_eq _ _) fun _ => rfl,
    runs_modifyPlace (.mem (.abs (wordOf hi lo))) (shiftRight_eq _ _) fun _ => rfl,
    runs_modifyPlace (.mem (.absX (wordOf hi lo))) (shiftRight_eq _ _) fun _ => rfl⟩

/-- Settles O45: as the shifts, each form being its rotate at the place it names. -/
theorem rotatesMoveThroughCarry : Obligations.RotatesMoveThroughCarry := by
  intro s b1 lo hi acc rmw at'
  refine ⟨fun r _ mode _ k => memRead_memWrite s (effectiveAddress mode s) k r, ?_⟩
  exact ⟨runs_modifyPlace .acc (rotateLeft_eq _ _) fun _ => rfl,
    runs_modifyPlace (.mem (.zp b1)) (rotateLeft_eq _ _) fun _ => rfl,
    runs_modifyPlace (.mem (.zpX b1)) (rotateLeft_eq _ _) fun _ => rfl,
    runs_modifyPlace (.mem (.abs (wordOf hi lo))) (rotateLeft_eq _ _) fun _ => rfl,
    runs_modifyPlace (.mem (.absX (wordOf hi lo))) (rotateLeft_eq _ _) fun _ => rfl,
    runs_modifyPlace .acc (rotateRight_eq _ _) fun _ => rfl,
    runs_modifyPlace (.mem (.zp b1)) (rotateRight_eq _ _) fun _ => rfl,
    runs_modifyPlace (.mem (.zpX b1)) (rotateRight_eq _ _) fun _ => rfl,
    runs_modifyPlace (.mem (.abs (wordOf hi lo))) (rotateRight_eq _ _) fun _ => rfl,
    runs_modifyPlace (.mem (.absX (wordOf hi lo))) (rotateRight_eq _ _) fun _ => rfl⟩

/-! ### Logic (R331-R333) -/

/-- Settles O42: a logic instruction loads A with the combination, once for every operation and source, then each form at
the two it names. -/
theorem logicCombinesBitwise : Obligations.LogicCombinesBitwise := by
  intro s b1 lo hi zn land lor lxor
  have logic {i : Instr} {bytes : List Byte} (op : Byte → Byte → Byte) (src : Source)
      (hf : Means i fun u => onSource (fun m => loadA (op u.a m)) src u)
      (hbytes : encode i = bytes := by simp [encode]) :
      Runs i bytes s (zn (op s.a (operandValue src s)) (sourceLength src)) :=
    runs_of_means hf (congrArg (advance (sourceLength src)) (loadA_eq _ s)) hbytes
  exact ⟨logic (· &&& ·) (.imm b1) fun _ => rfl,
    logic (· &&& ·) (.mem (.zp b1)) fun _ => rfl,
    logic (· &&& ·) (.mem (.zpX b1)) fun _ => rfl,
    logic (· &&& ·) (.mem (.abs (wordOf hi lo))) fun _ => rfl,
    logic (· &&& ·) (.mem (.absX (wordOf hi lo))) fun _ => rfl,
    logic (· &&& ·) (.mem (.absY (wordOf hi lo))) fun _ => rfl,
    logic (· &&& ·) (.mem (.indX b1)) fun _ => rfl,
    logic (· &&& ·) (.mem (.indY b1)) fun _ => rfl,
    logic (· ||| ·) (.imm b1) fun _ => rfl,
    logic (· ||| ·) (.mem (.zp b1)) fun _ => rfl,
    logic (· ||| ·) (.mem (.zpX b1)) fun _ => rfl,
    logic (· ||| ·) (.mem (.abs (wordOf hi lo))) fun _ => rfl,
    logic (· ||| ·) (.mem (.absX (wordOf hi lo))) fun _ => rfl,
    logic (· ||| ·) (.mem (.absY (wordOf hi lo))) fun _ => rfl,
    logic (· ||| ·) (.mem (.indX b1)) fun _ => rfl,
    logic (· ||| ·) (.mem (.indY b1)) fun _ => rfl,
    logic (· ^^^ ·) (.imm b1) fun _ => rfl,
    logic (· ^^^ ·) (.mem (.zp b1)) fun _ => rfl,
    logic (· ^^^ ·) (.mem (.zpX b1)) fun _ => rfl,
    logic (· ^^^ ·) (.mem (.abs (wordOf hi lo))) fun _ => rfl,
    logic (· ^^^ ·) (.mem (.absX (wordOf hi lo))) fun _ => rfl,
    logic (· ^^^ ·) (.mem (.absY (wordOf hi lo))) fun _ => rfl,
    logic (· ^^^ ·) (.mem (.indX b1)) fun _ => rfl,
    logic (· ^^^ ·) (.mem (.indY b1)) fun _ => rfl⟩

/-! ### BIT (R334) -/

/-- BIT's flags as the statement names them: N is the sign bit of M itself, not of A and M. -/
theorem bitTest_eq (m : Byte) (s : State) :
    bitTest m s = { s with z := decide (s.a &&& m = 0#8), n := m.msb, v := m.getLsbD 6 } := by
  rw [bitTest, bitAt_seven, msb_eq_decide_le]
  rfl

/-- Settles O43: `bitTest_eq` at each of the two sources. -/
theorem bitTestsWithoutWritingA : Obligations.BitTestsWithoutWritingA := fun s b1 lo hi =>
  ⟨runs_onSource (src := .mem (.zp b1)) (fun _ => rfl) (bitTest_eq _ s),
    runs_onSource (src := .mem (.abs (wordOf hi lo))) (fun _ => rfl) (bitTest_eq _ s)⟩

end Sys2Proof.LogicShift
end

section
/-! Proofs about spec/44_control.md: JSR and RTS (R382, R383), RTI (R384), the branches (R385-R393); and RTI as the return
from every interrupt entry of spec/60_exceptions.md (R464, R466, R467). -/

namespace Sys2Proof.Control

open Sys2Proof.Machine Sys2Proof.Claims Sys2Proof.Laws Sys2Proof.Scope Sys2Proof.MemoryAndStack Sys2Proof.Addressing
  Sys2Proof.LoadStore Sys2Proof.TransferStack

/-! ### JSR and RTS (R382, R383) -/

theorem callSubroutine_eq (target : Word) (s : State) :
    callSubroutine target s =
      { s with mem := (pushWord (s.pc + 2#16) s).mem, sp := s.sp - 2#8, pc := target } := by
  rw [show s.sp - 2#8 = s.sp - 1#8 - 1#8 from (sub_sub s.sp 1#8 1#8).symm]
  rfl

/-- The return address with its high byte first, at SP: the two slots are apart, so their order does not matter. -/
theorem memRead_callSubroutine (target : Word) (s : State) (k : Word) :
    memRead (callSubroutine target s) k =
      if k = stackAddress s.sp then highByte (s.pc + 2#16)
      else if k = stackAddress (s.sp - 1#8) then lowByte (s.pc + 2#16)
      else memRead s k := by
  have apart : s.sp ≠ s.sp - 1#8 := by bv_omega
  refine (memRead_pushWord (s.pc + 2#16) s k).trans ?_
  by_cases high : k = stackAddress s.sp
  · simp [high, apart]
  · simp [high]

/-- RTS with the bytes it pulls named as the statements name them. -/
theorem returnFromSubroutine_eq_pulled (s : State) :
    returnFromSubroutine s = { s with sp := s.sp + 2#8, pc := wordOf (pulled s 2) (pulled s 1) + 1#16 } := by
  rw [← memRead_stackAddress_eq_pulled, ← memRead_stackAddress_eq_pulled,
    show s.sp + 2#8 = s.sp + 1#8 + 1#8 from (add_assoc s.sp 1#8 1#8).symm]
  rfl

/-- A word pull does not look at PC. -/
theorem popWord_jumpTo (target : Word) (s : State) :
    popWord (jumpTo target s) = ((popWord s).1, jumpTo target (popWord s).2) := rfl

/-- A return pulls the word the call pushed, whatever the call's target: it resumes past the call's three bytes. -/
theorem returnFromSubroutine_callSubroutine (target : Word) (s : State) :
    returnFromSubroutine (callSubroutine target s) =
      { s with mem := (callSubroutine target s).mem, pc := s.pc + 3#16 } := by
  rw [returnFromSubroutine, callSubroutine, popWord_jumpTo, popWord_pushWord,
    show s.pc + 3#16 = s.pc + 2#16 + 1#16 from (add_assoc s.pc 2#16 1#16).symm]
  rfl

/-- Settles O47: the call is a word push, the return a word pull, and the pull undoes the push. -/
theorem callsAndReturnsUseTheStack : Obligations.CallsAndReturnsUseTheStack := by
  refine ⟨fun s lo hi => ⟨callSubroutine (wordOf hi lo) s, runs_of_means (fun _ => rfl) rfl, ?_, fun k => ?_⟩,
    fun s => runs_of_means (fun _ => rfl) ?_, fun s t target h => ?_⟩
  · rw [callSubroutine_eq]
  · have low : (s.pc + 2#16).toNat % 256 = (s.pc.toNat + 2) % 256 := Nat.mod_mod_of_dvd _ (by decide)
    simp only [memRead_callSubroutine, eq_stackAddress_iff, apply_ite BitVec.toNat, toNat_lowByte, toNat_highByte, low]
    rfl
  · rw [returnFromSubroutine_eq_pulled, wordOf_eq_ofNat, ← BitVec.ofNat_add]
  · obtain rfl : callSubroutine target s = t := Host.Outcome.next.inj h
    exact congrArg _ (returnFromSubroutine_callSubroutine target s)

/-! ### RTI (R384) -/

theorem returnFromInterrupt_eq_pulled (s : State) :
    returnFromInterrupt s =
      { setStatus (pulled s 1) s with sp := s.sp + 3#8, pc := wordOf (pulled s 3) (pulled s 2) } := by
  have two : s.sp + 1#8 + 1#8 = s.sp + 2#8 := add_assoc s.sp 1#8 1#8
  have three : s.sp + 2#8 + 1#8 = s.sp + 3#8 := add_assoc s.sp 2#8 1#8
  rw [returnFromInterrupt_eq, two, three, ← memRead_stackAddress_eq_pulled, ← memRead_stackAddress_eq_pulled,
    ← memRead_stackAddress_eq_pulled]

/-- Settles O48: the three pulled bytes, the last two read as one number. -/
theorem rtiRestoresFlagsAndPc : Obligations.RtiRestoresFlagsAndPc := by
  refine fun s => runs_of_means (fun _ => rfl) ?_
  rw [returnFromInterrupt_eq_pulled, wordOf_eq_ofNat]
  rfl

/-! ### Branches (R385-R393) -/

/-- A branch goes from PC + 2 by its displacement, or by nothing (R385). -/
theorem branch_eq_ofInt (cond : Bool) (disp : Byte) (s : State) :
    branch cond disp s =
      { s with pc := BitVec.ofInt 16 ((s.pc.toNat : Int) + 2 + (if cond then disp.toInt else 0)) } := by
  rw [branch_eq]
  cases cond with
  | true => simp [relativeTarget_eq]
  | false => simp [BitVec.ofInt_add]

/-- Settles O49: all eight are one branch (`branch_eq_ofInt`), each on the flag it names. -/
theorem branchesTestOneFlag : Obligations.BranchesTestOneFlag := by
  intro s d goTo
  have runs {i : Instr} {bytes : List Byte} {cond : State → Bool} {test : Bool}
      (hf : Means i fun u => branch (cond u) d u) (htest : cond s = test)
      (hbytes : encode i = bytes := by simp [encode]) : Runs i bytes s (goTo test) :=
    runs_of_means hf (htest ▸ branch_eq_ofInt (cond s) d s) hbytes
  exact ⟨runs (cond := condBcc) (fun _ => rfl) Bool.decide_eq_false.symm,
    runs (cond := condBcs) (fun _ => rfl) Bool.decide_eq_true.symm,
    runs (cond := condBeq) (fun _ => rfl) Bool.decide_eq_true.symm,
    runs (cond := condBne) (fun _ => rfl) Bool.decide_eq_false.symm,
    runs (cond := condBmi) (fun _ => rfl) Bool.decide_eq_true.symm,
    runs (cond := condBpl) (fun _ => rfl) Bool.decide_eq_false.symm,
    runs (cond := condBvc) (fun _ => rfl) Bool.decide_eq_false.symm,
    runs (cond := condBvs) (fun _ => rfl) Bool.decide_eq_true.symm⟩

/-! ### Stack slots below SP -/

theorem ne_stackAddress_of_outsideSlots {n j : Nat} {s : State} {k : Word} (h : OutsideSlots n s k) (hj : j < n)
    {p : Byte} (hp : p.toNat = (s.sp.toNat + (256 - j)) % 256) : k ≠ stackAddress p := by
  rw [Ne, eq_stackAddress_iff, hp]
  exact h j hj

theorem outsideSlots_mono {m n : Nat} {s : State} {k : Word} (h : OutsideSlots n s k) (hmn : m ≤ n) :
    OutsideSlots m s k := fun j hj => h j (hj.trans_le hmn)

/-- An address outside the six slots from SP down is outside the lower three, which are those of SP - 3. -/
theorem outsideSlots_lower {s t : State} {k : Word} (h : OutsideSlots 6 s k) (hsp : t.sp = s.sp - 3#8) :
    OutsideSlots 3 t k := by
  intro j hj
  have same : (t.sp.toNat + (256 - j)) % 256 = (s.sp.toNat + (256 - (j + 3))) % 256 := by
    rw [hsp, BitVec.toNat_sub, BitVec.toNat_ofNat]
    omega
  rw [same]
  exact h (j + 3) (by omega)

/-- The bytes a return from interrupt pulls lie above SP, outside the slots an entry writes. -/
theorem outsideSlots_pulled (s : State) {k : Nat} (hk : 1 ≤ k ∧ k ≤ 3) :
    OutsideSlots 3 s (BitVec.ofNat 16 (0x0100 + (s.sp.toNat + k) % 256)) := by
  intro j hj
  rw [BitVec.toNat_ofNat]
  omega

/-! ### RTI after an entry (R464, R467) -/

/-- `t` is in a handler that was entered from `s`: RTI resumes at `ret` with every register and flag of `s`, and no byte
outside the `n` stack slots from the SP of `s` down has changed. -/
structure EnteredFrom (n : Nat) (ret : Word) (s t : State) : Prop where
  resumes : returnFromInterrupt t = { s with mem := t.mem, pc := ret }
  sp_eq : t.sp = s.sp - 3#8
  frame : ∀ k : Word, OutsideSlots n s k → memRead t k = memRead s k

theorem EnteredFrom.exec_rti {n : Nat} {ret : Word} {s t : State} (h : EnteredFrom n ret s t) :
    exec .rti t = .next { s with mem := t.mem, pc := ret } :=
  congrArg Host.Outcome.next h.resumes

/-- The three pulls of a return find the status and the return address where the entry left them. -/
theorem returnFromInterrupt_savedState (ret : Word) (s : State) :
    returnFromInterrupt (savedState ret s) = { s with mem := (savedState ret s).mem, pc := ret } := by
  have low_ne_status : s.sp - 1#8 ≠ s.sp - 1#8 - 1#8 := by bv_omega
  have high_ne_status : s.sp ≠ s.sp - 1#8 - 1#8 := by bv_omega
  have high_ne_low : s.sp ≠ s.sp - 1#8 := by bv_omega
  rw [returnFromInterrupt_eq, savedState_sp, sub_add_cancel, sub_add_cancel, sub_add_cancel]
  simp [memRead_savedState, low_ne_status, high_ne_status, high_ne_low, setStatus_statusByte]

/-- What every entry has in common: I, B and PC after the pushes do not matter to the return, which loads all three. -/
theorem enteredFrom_savedState (ret pc : Word) (s : State) (i b : Bool) :
    EnteredFrom 3 ret s { savedState ret s with i := i, b := b, pc := pc } where
  resumes := returnFromInterrupt_savedState ret s
  sp_eq := by simp [sub_sub]
  frame k hk := by
    refine (memRead_savedState ret s k).trans ?_
    rw [if_neg (ne_stackAddress_of_outsideSlots hk (j := 2) (by decide) (by bv_omega)),
      if_neg (ne_stackAddress_of_outsideSlots hk (j := 1) (by decide) (by bv_omega)),
      if_neg (ne_stackAddress_of_outsideSlots hk (j := 0) (by decide) (by bv_omega))]

theorem enteredFrom_nmiPin (s : State) : EnteredFrom 3 s.pc s (nmiPin s) :=
  enteredFrom_savedState s.pc _ s true s.b

theorem enteredFrom_irqPin {s : State} (hi : s.i = false) : EnteredFrom 3 s.pc s (irqPin s) := by
  rw [irqPin, hi]
  exact enteredFrom_savedState s.pc _ s true s.b

theorem enteredFrom_brk {s t : State} (h : exec .brk s = .next t) : EnteredFrom 3 (s.pc + 2#16) s t := by
  obtain rfl : softwareInterrupt s = t := Host.Outcome.next.inj h
  exact enteredFrom_savedState (s.pc + 2#16) _ s true true

/-- A return looks at no byte of memory but the three it pulls, and keeps them all. -/
theorem returnFromInterrupt_withMem {t : State} {m : Memory}
    (h : ∀ k, 1 ≤ k ∧ k ≤ 3 → pulled { t with mem := m } k = pulled t k) :
    returnFromInterrupt { t with mem := m } = { returnFromInterrupt t with mem := m } := by
  rw [returnFromInterrupt_eq_pulled, returnFromInterrupt_eq_pulled, h 1 (by decide), h 2 (by decide), h 3 (by decide)]
  rfl

/-- An interrupt of a handler at its start, once returned from, leaves the handler's own return as it was: the second
entry writes below the slots of the first. -/
theorem EnteredFrom.after_nested {ret : Word} {s t v : State} (h : EnteredFrom 3 ret s t)
    (nested : EnteredFrom 3 t.pc t v) : EnteredFrom 6 ret s { t with mem := v.mem } where
  resumes := by
    have pulls : ∀ k, 1 ≤ k ∧ k ≤ 3 → pulled { t with mem := v.mem } k = pulled t k :=
      fun _ hk => nested.frame _ (outsideSlots_pulled t hk)
    rw [returnFromInterrupt_withMem pulls, h.resumes]
  sp_eq := h.sp_eq
  frame k hk :=
    (nested.frame k (outsideSlots_lower hk h.sp_eq)).trans (h.frame k (outsideSlots_mono hk (by decide)))

/-- Settles O53: each entry is an `EnteredFrom`, and so is the handler that a nested NMI has returned to. -/
theorem rtiUndoesEveryEntry : Obligations.RtiUndoesEveryEntry := by
  refine ⟨fun s => ?_, fun s hi => ?_, fun s t hbrk => ?_, fun s t hbrk => ?_, fun s hi => ?_⟩
  · exact ⟨(enteredFrom_nmiPin s).exec_rti, (enteredFrom_nmiPin s).frame⟩
  · exact ⟨(enteredFrom_irqPin hi).exec_rti, (enteredFrom_irqPin hi).frame⟩
  · exact ⟨(enteredFrom_brk hbrk).exec_rti, (enteredFrom_brk hbrk).frame⟩
  · have nested := enteredFrom_nmiPin t
    have handler := (enteredFrom_brk hbrk).after_nested nested
    exact ⟨_, nested.exec_rti, rfl, handler.exec_rti, handler.frame⟩
  · have nested := enteredFrom_nmiPin (irqPin s)
    have handler := (enteredFrom_irqPin hi).after_nested nested
    exact ⟨_, nested.exec_rti, rfl, handler.exec_rti, handler.frame⟩

end Sys2Proof.Control
end

section
/-! Proofs about spec/45_flags_system.md: the flag instructions (R421-R427), NOP (R428) and BRK (R429). -/

namespace Sys2Proof.FlagSystem

open Sys2Proof.Machine Sys2Proof.Claims Sys2Proof.Laws Sys2Proof.Scope Sys2Proof.StateVector Sys2Proof.LoadStore
  Sys2Proof.TransferStack

/-! ### Flag instructions and NOP (R421-R428) -/

/-- An implied instruction whose effect does not jump leaves PC one further, counted modulo 65536 (R26, R110). -/
theorem implied_eq_ofNat {effect : State → State} {s : State} (hpc : (effect s).pc = s.pc) :
    implied effect s = { effect s with pc := BitVec.ofNat 16 (s.pc.toNat + 1) } := by
  rw [implied_eq rfl, hpc, BitVec.ofNat_add, BitVec.ofNat_toNat, BitVec.setWidth_eq]

/-- Settles O50: all eight are implied instructions that keep PC (`implied_eq_ofNat`), each with the effect it names. -/
theorem flagInstructionsWriteOneFlag : Obligations.FlagInstructionsWriteOneFlag := by
  intro s one
  have runs {i : Instr} {bytes : List Byte} (effect : State → State) (hf : Means i (implied effect))
      (hpc : (effect s).pc = s.pc) (hbytes : encode i = bytes := by simp [encode]) : Runs i bytes s (one (effect s)) :=
    runs_of_means hf (implied_eq_ofNat hpc) hbytes
  exact ⟨runs (fun t => { t with c := false }) (fun _ => rfl) rfl,
    runs (fun t => { t with d := false }) (fun _ => rfl) rfl,
    runs (fun t => { t with i := false }) (fun _ => rfl) rfl,
    runs (fun t => { t with v := false }) (fun _ => rfl) rfl,
    runs (fun t => { t with c := true }) (fun _ => rfl) rfl,
    runs (fun t => { t with d := true }) (fun _ => rfl) rfl,
    runs (fun t => { t with i := true }) (fun _ => rfl) rfl,
    runs id (fun _ => rfl) rfl⟩

/-! ### What an interrupt entry saves and loads, as numbers (R464) -/

/-- A word is read low byte first (R11, R64). -/
theorem readWord_eq_ofNat (s : State) (addr : Word) :
    readWord s addr = BitVec.ofNat 16 ((memRead s (addr + 1#16)).toNat * 256 + (memRead s addr).toNat) :=
  wordOf_eq_ofNat _ _

theorem lowByte_eq_ofNat (w : Word) : lowByte w = BitVec.ofNat 8 w.toNat :=
  BitVec.eq_of_toNat_eq (toNat_lowByte w)

theorem highByte_eq_ofNat (w : Word) : highByte w = BitVec.ofNat 8 (w.toNat / 256) := by
  rw [← toNat_highByte, BitVec.ofNat_toNat, BitVec.setWidth_eq]

/-- The return address with its high byte first, at SP, and the status last: the three slots are apart, so their order
does not matter. -/
theorem memRead_savedState_eq_ofNat (ret : Word) (s : State) (k : Word) :
    memRead (savedState ret s) k =
      if k.toNat = 0x0100 + s.sp.toNat then BitVec.ofNat 8 (ret.toNat / 256)
      else if k.toNat = 0x0100 + (s.sp - 1#8).toNat then BitVec.ofNat 8 ret.toNat
      else if k.toNat = 0x0100 + (s.sp - 2#8).toNat then packStatus s
      else memRead s k := by
  have high_ne_low : s.sp ≠ s.sp - 1#8 := by bv_omega
  have high_ne_status : s.sp ≠ s.sp - 2#8 := by bv_omega
  have low_ne_status : s.sp - 1#8 ≠ s.sp - 2#8 := by bv_omega
  rw [memRead_savedState, show s.sp - 1#8 - 1#8 = s.sp - 2#8 from sub_sub s.sp 1#8 1#8]
  simp only [← eq_stackAddress_iff, ← highByte_eq_ofNat, ← lowByte_eq_ofNat, ← statusByte_eq_packStatus]
  by_cases high : k = stackAddress s.sp
  · simp [high, high_ne_low, high_ne_status]
  by_cases low : k = stackAddress (s.sp - 1#8)
  · simp [low, low_ne_status, high_ne_low.symm]
  · simp [high, low]

/-- Memory aside, an entry's pushes move SP and nothing else (R70, R464). -/
theorem savedState_eq_record (ret : Word) (s : State) :
    savedState ret s = { s with mem := (savedState ret s).mem, sp := s.sp - 3#8 } := by
  rw [show s.sp - 3#8 = s.sp - 1#8 - 1#8 - 1#8 by bv_omega]
  simp only [savedState, pushFlags, pushWord, pushByte, memWrite]

/-! ### BRK (R429) -/

/-- BRK as a record: memory aside, only SP, I, B and PC differ from the state before it (R429). -/
theorem softwareInterrupt_eq_record (s : State) :
    softwareInterrupt s =
      { s with
        mem := (softwareInterrupt s).mem, sp := s.sp - 3#8, b := true, i := true
        pc := readWord s irqVector } := by
  rw [softwareInterrupt_eq, savedState_eq_record]

/-- Settles O51: the record of BRK for the registers and flags, the bytes an entry saves (with PC + 2) for memory. -/
theorem brkTakesTheInterruptVector : Obligations.BrkTakesTheInterruptVector := by
  refine fun s => ⟨softwareInterrupt s, runs_of_means (fun _ => rfl) rfl, ?_, fun k => ?_⟩
  · have vector : readWord s irqVector =
        BitVec.ofNat 16 ((memRead s 0xFFFF#16).toNat * 256 + (memRead s 0xFFFE#16).toNat) := readWord_eq_ofNat s irqVector
    rw [← vector]
    exact softwareInterrupt_eq_record s
  · exact memRead_savedState_eq_ofNat (s.pc + 2#16) s k

end Sys2Proof.FlagSystem
end

section
/-! Proofs about spec/60_exceptions.md: what a serviced interrupt saves and loads (R462-R464), which pin of a set is serviced
(R465), and the illegal opcode that repeats (R470). -/

namespace Sys2Proof.Exceptions

open Sys2Proof.Machine Sys2Proof.Claims Sys2Proof.Laws Sys2Proof.Encoding Sys2Proof.FlagSystem

/-! ### Interrupt entries (R462-R464) -/

theorem irqPin_of_masked {s : State} (hi : s.i = true) : irqPin s = s := by simp [irqPin, hi]

theorem irqPin_of_unmasked {s : State} (hi : s.i = false) : irqPin s = interruptEntry s.pc irqVector s := by
  simp [irqPin, hi]

theorem nmiPin_i (s : State) : (nmiPin s).i = true := rfl

/-- An entry as a record: memory aside, only SP, I and PC differ. The vector is what it was before the pushes, since it
stands outside the stack page (R464). -/
theorem interruptEntry_eq_record (ret : Word) {vec : Word} (s : State) (low : highByte vec ≠ stackPage)
    (high : highByte (vec + 1#16) ≠ stackPage) :
    interruptEntry ret vec s =
      { s with
        mem := (interruptEntry ret vec s).mem, sp := s.sp - 3#8, i := true
        pc := BitVec.ofNat 16 ((memRead s (vec + 1#16)).toNat * 256 + (memRead s vec).toNat) } := by
  rw [interruptEntry_eq, readWord_savedState ret vec s low high, readWord_eq_ofNat, savedState_eq_record]

/-- Settles O52: the record of an entry for the registers and flags, the bytes an entry saves for memory; an IRQ is that
entry or nothing, as I says. -/
theorem interruptEntriesSaveAndVector : Obligations.InterruptEntriesSaveAndVector := by
  intro s ret entered
  have enters (vec : Word) (low : highByte vec ≠ stackPage) (high : highByte (vec + 1#16) ≠ stackPage) :
      entered vec (interruptEntry s.pc vec s) :=
    ⟨interruptEntry_eq_record s.pc s low high, memRead_savedState_eq_ofNat s.pc s⟩
  refine ⟨enters nmiVector (by decide) (by decide), fun clear => ?_, irqPin_of_masked⟩
  rw [irqPin_of_unmasked clear]
  exact enters irqVector (by decide) (by decide)

/-- Settles O56: `pins` tests RESET, then NMI, then IRQ; the NMI that is serviced has set I, which masks the IRQ. -/
theorem pinsPriorityResetNmiIrq : Obligations.PinsPriorityResetNmiIrq := fun s _ _ =>
  ⟨rfl, rfl, rfl, irqPin_of_masked (nmiPin_i s)⟩

/-! ### Illegal opcodes (R470) -/

theorem afterTransactions_replicate {t : Transaction} {s : State} (fixed : afterTransaction t s = s) (k : Nat) :
    afterTransactions (List.replicate k t) s = s := by
  induction k with
  | zero => rfl
  | succ k ih => rw [List.replicate_succ, afterTransactions, fixed, ih]

/-- Settles O9: a step at an illegal opcode leaves the state as it was, and so does every further one. -/
theorem illegalOpcodeRepeatsUntilTheHostActs : Obligations.IllegalOpcodeRepeatsUntilTheHostActs := by
  intro s k illegal
  obtain ⟨-, -, -, faults⟩ := illegalOpcodesAreExactlyTheListed
  obtain ⟨hstep, fixed⟩ := faults s illegal
  rw [afterTransactions_replicate fixed k]
  exact ⟨rfl, hstep, stepResult_of_illegal illegal⟩

end Sys2Proof.Exceptions
end

section
/-! Proofs about spec/70_reset_and_hazards.md: what RESET sets and keeps (R521-R524), the boot by the host (R525, R526), the
end of a run (R530), and the informative cycle counts (R531). -/

namespace Sys2Proof.ResetAndHazards

open Sys2Proof.Machine Sys2Proof.Claims Sys2Proof.Laws Sys2Proof.MemoryAndStack Sys2Proof.Encoding Sys2Proof.Addressing
  Sys2Proof.FlagSystem

/-! ### RESET (R521-R524) -/

/-- RESET writes no memory, so a second one reads the same vector. -/
theorem resetPin_resetPin (s : State) : resetPin (resetPin s) = resetPin s := rfl

/-- Settles O54: RESET is a record update of four fields, PC with the vector's word as a number. -/
theorem resetPinSetsFourAndKeepsTheRest : Obligations.ResetPinSetsFourAndKeepsTheRest := by
  refine fun s => ⟨?_, resetPin_resetPin s⟩
  have vector : readWord s resetVector =
      BitVec.ofNat 16 ((memRead s 0xFFFD#16).toNat * 256 + (memRead s 0xFFFC#16).toNat) := readWord_eq_ofNat s resetVector
  rw [resetPin, vector]
  rfl

/-! ### The canonical form after the host's transactions (R521, R525) -/

/-- A transaction keeps the canonical form, completed or not: a fault leaves the state as it was (R470). -/
theorem afterTransaction_inv {s : State} (tr : Transaction) (hs : Safety.Inv s) : Safety.Inv (afterTransaction tr s) := by
  unfold afterTransaction
  split
  · next t ht => exact transact_inv hs ht
  · exact hs
  · exact hs

theorem afterTransactions_inv {s : State} (trs : List Transaction) (hs : Safety.Inv s) :
    Safety.Inv (afterTransactions trs s) := by
  induction trs generalizing s with
  | nil => exact hs
  | cons tr rest ih => exact ih (afterTransaction_inv tr hs)

theorem boot_inv {s : State} (writes : List (Word × Byte)) (hs : Safety.Inv s) : Safety.Inv (boot writes s) :=
  afterTransactions_inv _ hs

/-- Power-on and RESET have the same memory. -/
theorem powerOn_inv : Safety.Inv State.powerOn := reset_inv

/-- Settles O14: power-on is canonical, and the host's transactions keep it so. -/
theorem resetAndBootAreCanonical : Obligations.ResetAndBootAreCanonical :=
  ⟨reset_inv, powerOn_inv, fun writes => boot_inv writes powerOn_inv⟩

/-! ### Boot (R523, R525, R526) -/

/-- The state after a list of host writes (R66). -/
def afterWrites (writes : List (Word × Byte)) (s : State) : State :=
  afterTransactions (writes.map fun w => .hostWrite w.1 w.2) s

theorem boot_eq_resetPin (writes : List (Word × Byte)) (s : State) : boot writes s = resetPin (afterWrites writes s) := rfl

theorem afterWrites_cons (w : Word × Byte) (rest : List (Word × Byte)) (s : State) :
    afterWrites (w :: rest) s = afterWrites rest (memWrite s w.1 w.2) := rfl

/-- No register has a host write port (R28). -/
theorem afterWrites_eq_record (writes : List (Word × Byte)) (s : State) :
    afterWrites writes s = { s with mem := (afterWrites writes s).mem } := by
  induction writes generalizing s with
  | nil => rfl
  | cons w rest ih =>
    rw [afterWrites_cons]
    exact ih (memWrite s w.1 w.2)

theorem memRead_afterWrites (writes : List (Word × Byte)) (s : State) (k : Word) :
    memRead (afterWrites writes s) k = (lastWrite writes k).getD (memRead s k) := by
  induction writes generalizing s with
  | nil => rfl
  | cons w rest ih =>
    rw [afterWrites_cons, ih, memRead_memWrite, lastWrite, Option.getD_or]
    by_cases h : k = w.1
    · simp [h]
    · simp [h, Ne.symm h]

theorem lastWrite_append (xs ys : List (Word × Byte)) (k : Word) :
    lastWrite (xs ++ ys) k = (lastWrite ys k).or (lastWrite xs k) := by
  induction xs with
  | nil => simp [lastWrite]
  | cons x rest ih => rw [List.cons_append, lastWrite, lastWrite, ih, Option.or_assoc]

/-- After a boot every byte is the one last written, or what it was: RESET writes no memory (R522). -/
theorem memRead_boot (writes : List (Word × Byte)) (s : State) (k : Word) :
    memRead (boot writes s) k = (lastWrite writes k).getD (memRead s k) :=
  memRead_afterWrites writes s k

/-- Memory aside, a boot sets the four fields of RESET, PC from the vector as the host wrote it (R521, R525). -/
theorem boot_eq_record (writes : List (Word × Byte)) (s : State) :
    boot writes s =
      { s with
        mem := (boot writes s).mem, pc := readWord (boot writes s) resetVector, sp := resetSp, i := true, b := false } := by
  rw [boot_eq_resetPin, afterWrites_eq_record]
  rfl

/-- Settles O57: the writes of the vector come last, so the word RESET loads is the start address. -/
theorem bootReachesTheChosenAddress : Obligations.BootReachesTheChosenAddress := by
  intro s writes start t
  have read (k : Word) :
      memRead t k = (lastWrite [(0xFFFC#16, lowByte start), (0xFFFD#16, highByte start)] k).getD
        ((lastWrite writes k).getD (memRead s k)) := by
    rw [← Option.getD_or, ← lastWrite_append]
    exact memRead_boot _ s k
  have low : memRead t 0xFFFC#16 = lowByte start := read _
  have high : memRead t 0xFFFD#16 = highByte start := read _
  have pc : readWord t resetVector = start := (congrArg₂ wordOf high low).trans (wordOf_high_low start)
  refine ⟨?_, ?_, ?_, fun k hlow hhigh => ?_⟩
  · rw [← pc]
    exact boot_eq_record _ s
  · rw [low, toNat_lowByte]
  · rw [high, toNat_highByte]
  · simp [read, lastWrite, Ne.symm hlow, Ne.symm hhigh]

/-! ### The end of a run (R530) -/

/-- The completed step number `k`, counted from 0, reaches `t` with B = 1, and no earlier one reached a state with B = 1. -/
def FirstBreak (k : Nat) (s t : State) : Prop :=
  Host.Core.run Sys2Proof.core (k + 1) s = .next t ∧ t.b = true ∧
    ∀ j, j < k → ∀ u : State, Host.Core.run Sys2Proof.core (j + 1) s = .next u → u.b = false

section
variable {s t u : State} {f : Fault}

theorem run_succ_of_next (h : step s = .next u) (k : Nat) :
    Host.Core.run Sys2Proof.core (k + 1) s = Host.Core.run Sys2Proof.core k u := by
  have hstep : Sys2Proof.core.step s = .next u := h
  simp only [Host.Core.run, hstep]

theorem run_succ_of_fault (h : step s = .fault f) (k : Nat) :
    Host.Core.run Sys2Proof.core (k + 1) s = .fault f := by
  have hstep : Sys2Proof.core.step s = .fault f := h
  simp only [Host.Core.run, hstep]

theorem run_one_eq_next_iff (h : step s = .next u) : Host.Core.run Sys2Proof.core (0 + 1) s = .next t ↔ u = t := by
  rw [run_succ_of_next h]
  exact ⟨Host.Outcome.next.inj, congrArg _⟩

theorem runToEnd_succ_of_next (h : step s = .next u) (n : Nat) :
    Safety.runToEnd (n + 1) s = if u.b then .ended u else Safety.runToEnd n u := by
  rw [Safety.runToEnd, h]

theorem runToEnd_succ_of_fault (h : step s = .fault f) (n : Nat) : Safety.runToEnd (n + 1) s = .faulted f := by
  rw [Safety.runToEnd, h]

/-- A step completes or faults; it is never refused (R140, R470). -/
theorem step_completes_or_faults (s : State) : (∃ u, step s = .next u) ∨ ∃ f, step s = .fault f := by
  cases h : step s with
  | next u => exact .inl ⟨u, rfl⟩
  | fault f => exact .inr ⟨f, rfl⟩
  | refused r =>
    obtain ⟨-, notRefused, -⟩ := stepCompletesExactlyOnAssignedOpcodes s
    exact absurd h (notRefused r)

theorem firstBreak_zero_of_next (h : step s = .next u) : FirstBreak 0 s t ↔ u = t ∧ u.b = true := by
  rw [FirstBreak, run_one_eq_next_iff h]
  constructor
  · rintro ⟨rfl, hb, -⟩
    exact ⟨rfl, hb⟩
  · rintro ⟨rfl, hb⟩
    exact ⟨rfl, hb, fun j hj => absurd hj (Nat.not_lt_zero j)⟩

theorem firstBreak_succ_of_next (h : step s = .next u) (k : Nat) :
    FirstBreak (k + 1) s t ↔ u.b = false ∧ FirstBreak k u t := by
  simp only [FirstBreak, Nat.forall_lt_succ_left, run_one_eq_next_iff h, forall_eq', run_succ_of_next h (_ + 1)]
  tauto

theorem not_firstBreak_of_fault (h : step s = .fault f) (k : Nat) : ¬ FirstBreak k s t := by
  simp [FirstBreak, run_succ_of_fault h]

end

theorem runToEnd_eq_ended_iff (n : Nat) (s t : State) :
    Safety.runToEnd n s = .ended t ↔ ∃ k, k < n ∧ FirstBreak k s t := by
  induction n generalizing s with
  | zero => simp [Safety.runToEnd]
  | succ n ih =>
    obtain ⟨u, hu⟩ | ⟨f, hf⟩ := step_completes_or_faults s
    · rw [runToEnd_succ_of_next hu, Nat.exists_lt_succ_left, firstBreak_zero_of_next hu]
      simp only [firstBreak_succ_of_next hu]
      cases hb : u.b with
      | true => simp
      | false => simp [ih]
    · simp [runToEnd_succ_of_fault hf, not_firstBreak_of_fault hf]

theorem run_faults_of_runToEnd {n : Nat} {s : State} {f : Fault} (h : Safety.runToEnd n s = .faulted f) :
    ∃ k, k < n ∧ Host.Core.run Sys2Proof.core (k + 1) s = .fault f := by
  induction n generalizing s with
  | zero => cases h
  | succ n ih =>
    obtain ⟨u, hu⟩ | ⟨g, hg⟩ := step_completes_or_faults s
    · rw [runToEnd_succ_of_next hu] at h
      split at h
      · cases h
      · obtain ⟨k, hk, hrun⟩ := ih h
        exact ⟨k + 1, Nat.succ_lt_succ hk, (run_succ_of_next hu (k + 1)).trans hrun⟩
    · rw [runToEnd_succ_of_fault hg] at h
      cases h
      exact ⟨0, Nat.succ_pos n, run_succ_of_fault hg 0⟩

/-- Settles O58: induction on the bound, by the outcome of the first step. -/
theorem runEndsAtFirstBreak : Obligations.RunEndsAtFirstBreak := fun n s =>
  ⟨runToEnd_eq_ended_iff n s, fun _ => run_faults_of_runToEnd⟩

/-! ### Cycle counts (R531) -/

/-- The numbers of the cost column leave room for what their stars add (R531). -/
def CostInRange : CycleCost → Prop
  | .fixed base => 2 ≤ base ∧ base ≤ 7
  | .crossing base => 2 ≤ base ∧ base ≤ 6
  | .branch base => 2 ≤ base ∧ base ≤ 5

theorem costInRange_costOf (i : Instr) : CostInRange (costOf i) := by
  cases i <;> simp [costOf, CostInRange]

theorem cyclesFor_bounds {cost : CycleCost} (h : CostInRange cost) (cross taken : Bool) :
    2 ≤ cyclesFor cost cross taken ∧ cyclesFor cost cross taken ≤ 7 := by
  have hc := cross.toNat_le
  have ht := taken.toNat_le
  have hb := (taken && cross).toNat_le
  cases cost with
  | fixed base => exact h
  | crossing base =>
    obtain ⟨low, high⟩ := h
    simp only [cyclesFor]
    omega
  | branch base =>
    obtain ⟨low, high⟩ := h
    simp only [cyclesFor]
    omega

theorem stepResult_of_fetch {s : State} {i : Instr} (h : fetchInstr s = some i) :
    stepResult s = .executed (cycles i s) := by
  rw [stepResult, h]

/-- A plain number of the table is the count (R531). -/
theorem cycles_of_fixed {is : List Instr} {base : Nat} (s : State)
    (h : ∀ i ∈ is, costOf i = .fixed base := by simp [costOf]) : ∀ i ∈ is, cycles i s = base := fun i hi => by
  rw [cycles, h i hi, cyclesFor]

/-- With one star the count is one more when the final index takes the address off its base's page (R531). -/
theorem cycles_of_crossing {is : List Instr} {cost n : Nat} {mode : AddrMode} {s : State} {index : Byte}
    (hbase : baseAddress mode s = BitVec.ofNat 16 n) (hn : n < 65536)
    (hea : effectiveAddress mode s = baseAddress mode s + zext16 index)
    (h : ∀ i ∈ is, costOf i = .crossing cost ∧ resolveInstr i s = resolveAddr mode s := by
      simp [costOf, resolveInstr, modeOf, encode, resolve]) :
    ∀ i ∈ is, cycles i s = cost + if n / 256 ≠ (n + index.toNat) % 65536 / 256 then 1 else 0 := fun i hi => by
  obtain ⟨hcost, hres⟩ := h i hi
  obtain ⟨-, haddr⟩ := resolveAddr_of_indexed hbase hn hea
  rw [cycles, hcost, hres, haddr, cyclesFor, crossOf, Bool.toNat, Bool.cond_decide]

/-- With two stars: one more when taken, and one more again when the target lies off the page of PC + 2 (R122, R531). -/
theorem cycles_of_branch {i : Instr} {cost : Nat} {disp : Byte} {s : State} {taken : Bool}
    (hcost : costOf i = .branch cost) (hres : resolveInstr i s = resolve .relative disp 0#8 s)
    (htaken : branchTaken i s = taken) :
    cycles i s = cost + if taken then
      (if (((s.pc.toNat + 2) % 65536 : Nat) : Int) / 256 ≠ ((s.pc.toNat : Int) + 2 + disp.toInt) % 65536 / 256
        then 2 else 1) else 0 := by
  have after : (s.pc + 2#16).toNat = (s.pc.toNat + 2) % 65536 := BitVec.toNat_add s.pc 2#16
  rw [cycles, hcost, hres, htaken, resolve, crossOf, cyclesFor, page_ne_eq, after, ← toNat_relativeTarget]
  norm_cast
  cases taken with
  | false => simp
  | true => by_cases h : (s.pc.toNat + 2) % 65536 / 256 = (relativeTarget disp s).toNat / 256 <;> simp [h]

/-- Settles O59: the cost of each form is its row's, and the three shapes of cost count as `cycles_of_fixed`,
`cycles_of_crossing` and `cycles_of_branch` say. -/
theorem cycleCountsFollowTheTable : Obligations.CycleCountsFollowTheTable := by
  intro s b1 lo hi addr base zp pointer crossing after target taken
  have branch {i : Instr} {test : Bool} (htest : branchTaken i s = test)
      (hcost : costOf i = .branch 2 := by simp [costOf])
      (hres : resolveInstr i s = resolve .relative b1 0#8 s := by simp [resolveInstr, modeOf, encode]) :
      cycles i s = 2 + taken test := cycles_of_branch hcost hres htest
  refine ⟨cycles_of_fixed s, cycles_of_fixed s, cycles_of_fixed s, cycles_of_fixed s, cycles_of_fixed s, cycles_of_fixed s,
    cycles_of_crossing (mode := .absX addr) (wordOf_eq_ofNat hi lo) (wordNumber_lt hi lo) rfl,
    cycles_of_crossing (mode := .absY addr) (wordOf_eq_ofNat hi lo) (wordNumber_lt hi lo) rfl,
    cycles_of_crossing (mode := .indY b1) (readWordZP_eq s b1) (wordNumber_lt _ _) rfl,
    branch Bool.decide_eq_false.symm, branch Bool.decide_eq_true.symm, branch Bool.decide_eq_true.symm,
    branch Bool.decide_eq_false.symm, branch Bool.decide_eq_true.symm, branch Bool.decide_eq_false.symm,
    branch Bool.decide_eq_false.symm, branch Bool.decide_eq_true.symm, fun i => ?_⟩
  obtain ⟨low, high⟩ := cyclesFor_bounds (costInRange_costOf i) (crossOf (resolveInstr i s)) (branchTaken i s)
  exact ⟨low, high, stepResult_of_fetch⟩

end Sys2Proof.ResetAndHazards
end
